-- ==== Sys2Proof/Word.lean ====
section
/-! DEFINITION. The fixed widths of 00_scope.md section 4 and 10_state.md, each under the spec's name for the thing; TS_W, which
is open, is in Config. -/

namespace Sys2Proof

/-- A frame word `W[19:0]` (R6, R37): 20 bits, the first bit received at `W[19]` (R28). -/
abbrev FrameWord := BitVec 20

/-- The control word of a cycle, `C = rst : in_eos : in_valid` (R44). -/
abbrev ControlWord := BitVec 3

/-- The `dec_position` bus, POS_W = 18 (R8). -/
abbrev Position := BitVec 18

/-- The `dec_pos_fx` bus, FX_W = 20, two's complement (R8). -/
abbrev FixedPoint := BitVec 20

/-- The bit counter `cnt[4:0]` (R16). -/
abbrev Count := BitVec 5

/-- The accumulation buffers `acc_data[18:0]` and `acc_sync[18:0]` (R18). -/
abbrev Accumulator := BitVec 19

end Sys2Proof
end

