-- ==== Sys2Proof/Config.lean ====
section
/-! DEFINITION. What the spec leaves to the implementation or to the environment: TS_W, and the input levels of a cycle
that State does not list. Both are opaque: no proof can see their values. -/

namespace Sys2Proof

/-- TS_W - 1, OPEN (R7, D17, U4): free. -/
opaque Config.tsWidthLessOne : Nat

/-- TS_W, the width of a timestamp in bits; R7 says only TS_W ≥ 1, and nothing else can be proved of it. -/
def Config.tsWidth : Nat := Config.tsWidthLessOne + 1

/-- A sample's timestamp, TS_W bits (R7, R11): on the port `in_ts`, and in `ts_start`, `fr_ts_start` and `fr_ts_end`. -/
abbrev Timestamp := BitVec Config.tsWidth

/-- The levels on the block's input ports during one clock cycle, as 10_state.md R11 lists them. `clk` is the step itself. -/
structure Ports where
  rst         : Bool
  inValid     : Bool
  inData      : Bool
  inSync      : Bool
  inTs        : Timestamp
  inEos       : Bool
  cfgSyncEdge : BitVec 2
  cfgSignMode : BitVec 2
  cfgAlign    : Bool
  deriving DecidableEq, Repr, Inhabited

/-- The input levels the environment drives in the cycle of a given number, where State lists none: free (log 1).
R9 puts the sample source outside the block, and R12 and U7 leave the configuration to the environment. -/
opaque Config.undrivenPorts : Nat → Ports

end Sys2Proof
end

