-- ==== Sys2Proof/Syntax.lean ====
section
/-! DEFINITION. The syntax: one constructor of `Instr` per row of spec/opcode_table.json, and the small enumerations the
spec names. -/

namespace Sys2Proof

/-- The three classes of a frame word (R65). -/
inductive FrameClass
  | std16
  | enh18
  | unknown
  deriving DecidableEq, Repr

/-- The legal settings of `cfg_sync_edge` (R12). -/
inductive SyncEdge
  | rising
  | falling
  | both
  deriving DecidableEq, Repr

/-- The legal settings of `cfg_sign_mode` (R13). -/
inductive SignMode
  | unsigned
  | offsetBinary
  | twosComplement
  deriving DecidableEq, Repr

/-- The five forms a SAMPLE can take (R45). -/
inductive SampleForm
  | huntSkip
  | start
  | accum
  | complete
  | resync
  deriving DecidableEq, Repr

/-- One constructor per row of spec/opcode_table.json, in the table's order. -/
inductive Instr
  /-- STD16 (R38, R67): `W[16:1]` and `W[0]`. -/
  | std16 (position : BitVec 16) (parity : Bool)
  /-- ENH18 (R39, R68): `W[18:1]` and `W[0]`. -/
  | enh18 (position : BitVec 18) (parity : Bool)
  /-- UNK000 (R41, R69): the ignored `W[16:0]`. -/
  | unk000 (rest : BitVec 17)
  /-- UNK010 (R41, R69): the ignored `W[16:0]`. -/
  | unk010 (rest : BitVec 17)
  /-- UNK011 (R41, R69): the ignored `W[16:0]`. -/
  | unk011 (rest : BitVec 17)
  /-- RESET (R44, R95): the ignored bits `C[1]` and `C[0]`. -/
  | reset (inEos inValid : Bool)
  /-- IDLE (R44, R53). -/
  | idle
  /-- SAMPLE (R44, R54): `S(sync, data, ts)` of R48. -/
  | sample (sync data : Bool) (ts : Timestamp)
  /-- EOS (R44, R60). -/
  | eos
  /-- SAMPLE_EOS (R44, R61): `SE(sync, data, ts)` of R48. -/
  | sampleEos (sync data : Bool) (ts : Timestamp)
  /-- HUNT_SKIP (R45, R55); `inEos` is `C[1]`, which the row's mask leaves free. -/
  | huntSkip (inEos sync data : Bool) (ts : Timestamp)
  /-- START (R45, R56). -/
  | start (inEos sync data : Bool) (ts : Timestamp)
  /-- ACCUM (R45, R57). -/
  | accum (inEos sync data : Bool) (ts : Timestamp)
  /-- COMPLETE (R45, R58). -/
  | complete (inEos sync data : Bool) (ts : Timestamp)
  /-- RESYNC (R45, R59). -/
  | resync (inEos sync data : Bool) (ts : Timestamp)
  /-- EDGE_RISING: `cfg_sync_edge = 0b00` (R12, R49). -/
  | edgeRising
  /-- EDGE_FALLING: `cfg_sync_edge = 0b01` (R12, R49). -/
  | edgeFalling
  /-- EDGE_BOTH: `cfg_sync_edge = 0b10` (R12, R49). -/
  | edgeBoth
  /-- EDGE_RSVD: `cfg_sync_edge = 0b11`, reserved (R47). -/
  | edgeRsvd
  /-- SX_UNSIGNED: `cfg_sign_mode = 0b00` (R13, R75). -/
  | sxUnsigned
  /-- SX_OFFSET: `cfg_sign_mode = 0b01` (R13, R76). -/
  | sxOffset
  /-- SX_TWOS: `cfg_sign_mode = 0b10` (R13, R77). -/
  | sxTwos
  /-- SX_RSVD: `cfg_sign_mode = 0b11`, reserved (R47). -/
  | sxRsvd
  /-- ALIGN_OFF: `cfg_align = 0` (R14, R78). -/
  | alignOff
  /-- ALIGN_ON: `cfg_align = 1` (R14, R78). -/
  | alignOn
  deriving DecidableEq, Repr

/-- The formats of spec/opcode_table.json. -/
inductive Format
  | frame
  | control
  | sampleForm
  | cfgSyncEdge
  | cfgSignMode
  | cfgAlign
  deriving DecidableEq, Repr

/-- An encoded instruction, in the format of its row. The operands of a sample are port levels beside the control word
(R11, R44), so they stand beside it here; a SAMPLE form is selected by `cnt` and the edge detector too (R45). -/
inductive Code
  | frame (w : FrameWord)
  | control (c : ControlWord) (sync data : Bool) (ts : Timestamp)
  | sampleForm (c : ControlWord) (cnt : Count) (edge : Bool) (sync data : Bool) (ts : Timestamp)
  | cfgSyncEdge (v : BitVec 2)
  | cfgSignMode (v : BitVec 2)
  | cfgAlign (v : BitVec 1)
  deriving DecidableEq, Repr

end Sys2Proof
end

