-- ==== Sys2Proof/Machine/State.lean ====
section
/-! DEFINITION. The machine's state, its outcomes' reasons, and the state after reset. -/

namespace Sys2Proof.Machine

/-- The thirteen registers of 10_state.md R25; a 1-bit register is a Bool, 1 for true (00_scope.md section 5). -/
structure Regs where
  /-- `cnt[4:0]` (R16): 0 is HUNT, 1..19 is FILL. -/
  cnt       : Count
  /-- `prev_valid` (R17). -/
  prevValid : Bool
  /-- `prev_sync` (R17). -/
  prevSync  : Bool
  /-- `acc_data[18:0]` (R18). -/
  accData   : Accumulator
  /-- `acc_sync[18:0]` (R18). -/
  accSync   : Accumulator
  /-- `ts_start` (R19). -/
  tsStart   : Timestamp
  /-- `fr_valid` (R20). -/
  frValid   : Bool
  /-- `fr_data[19:0]` (R20). -/
  frData    : FrameWord
  /-- `fr_sync[19:0]` (R20). -/
  frSync    : FrameWord
  /-- `fr_ts_start` (R20). -/
  frTsStart : Timestamp
  /-- `fr_ts_end` (R20). -/
  frTsEnd   : Timestamp
  /-- `err_trunc`, the port `err[0]` (R21). -/
  errTrunc  : Bool
  /-- `err_resync`, the port `err[1]` (R21). -/
  errResync : Bool
  deriving DecidableEq, Repr

/-- The configuration selected in the current cycle (R12 to R14). R15: inputs, not registers; a step drives them anew
before it uses them (log 3). -/
structure Cfg where
  /-- `cfg_sync_edge`. -/
  syncEdge : SyncEdge
  /-- `cfg_sign_mode`. -/
  signMode : SignMode
  /-- `cfg_align`. -/
  align    : Bool
  deriving DecidableEq, Repr

/-- The levels of the combinational output ports of R22 (log 4). -/
structure DecOut where
  /-- `dec_valid` (R70). -/
  valid         : Bool
  /-- `dec_mode`: 0 Standard16, 1 Enhanced18 (R67, R68). -/
  mode          : Bool
  /-- `dec_position` (R67, R68). -/
  position      : Position
  /-- `dec_parity_ok` (R66). -/
  parityOk      : Bool
  /-- `dec_pos_fx` (R74). -/
  posFx         : FixedPoint
  /-- `err[2]`, `UnknownFrameHeader` (R69). -/
  unknownHeader : Bool
  deriving DecidableEq, Repr

/-- The machine: R25's registers, the cycle's configuration, the combinational outputs, and the input sequence of R9. -/
structure State where
  regs   : Regs
  cfg    : Cfg
  dec    : DecOut
  /-- The model's own (log 1): the input levels of the coming cycles, the next one first. -/
  inputs : List Ports
  /-- The model's own (log 1): the steps taken, which number the free input levels. -/
  clock  : Nat
  deriving DecidableEq, Repr

/-- Why the machine stops. -/
inductive Fault
  /-- A sample was accepted with `cnt` in 20..31, where no form of R54 applies; unreachable from reset (R16), and U10 lets
  a model fault. Raised by SAMPLE, SAMPLE_EOS and the five form rows. Safe: nothing is claimed of such a state. -/
  | cntOutOfRange
  deriving DecidableEq, Repr

/-- Why the machine gives no meaning. -/
inductive Refusal
  /-- An instruction without a meaning yet. Raised by `exec`'s refused arms; there is none. Safe. -/
  | notModelled (mnemonic : String)
  /-- `cfg_sync_edge = 0b11` (R47, U1): "A model refuses a configuration that has either one". Raised by EDGE_RSVD. Safe. -/
  | reservedSyncEdge
  /-- `cfg_sign_mode = 0b11` (R47, U2). Raised by SX_RSVD. Safe. -/
  | reservedSignMode
  /-- A SAMPLE form row run in a state that selects another form (R45). Raised by the five form rows; a step never runs one
  that is not selected (log 6). Safe. -/
  | formNotSelected
  deriving DecidableEq, Repr

/-- The reset values of R25. -/
def Regs.reset : Regs where
  cnt       := 0#5
  prevValid := false
  prevSync  := false
  accData   := 0#19
  accSync   := 0#19
  tsStart   := 0
  frValid   := false
  frData    := 0#20
  frSync    := 0#20
  frTsStart := 0
  frTsEnd   := 0
  errTrunc  := false
  errResync := false

/-- The configuration named at reset. DESIGN CHOICE (log 3, unsafe): R15 gives none, the inputs having no reset value. -/
def Cfg.reset : Cfg where
  syncEdge := .rising
  signMode := .unsigned
  align    := false

/-- The combinational outputs after reset (R25, its last sentence). -/
def DecOut.reset : DecOut where
  valid         := false
  mode          := false
  position      := 0#18
  parityOk      := false
  posFx         := 0#20
  unknownHeader := false

/-- The machine right after reset (R25, R96); no input is listed (log 1). -/
def State.reset : State where
  regs   := Regs.reset
  cfg    := Cfg.reset
  dec    := DecOut.reset
  inputs := []
  clock  := 0

end Sys2Proof.Machine
end

