-- ==== Sys2Proof/Machine/Flags.lean ====
section
/-! DEFINITION. The status bits of 10_state.md R24: parity, the output gates, and the error wires. -/

namespace Sys2Proof.Machine

/-- `popcount` of the low `k` bits (00_scope.md section 5). -/
def popcountBelow {n : Nat} (v : BitVec n) : Nat → Nat
  | 0 => 0
  | k + 1 => popcountBelow v k + (v.getLsbD k).toNat

/-- `popcount(v)`: the number of bits equal to 1. -/
def popcount {n : Nat} (v : BitVec n) : Nat := popcountBelow v n

/-- Standard16's parity check over `W[16:0]`: even (R66). -/
def parityEven (coverage : BitVec 17) : Bool := popcount coverage % 2 == 0

/-- Enhanced18's parity check over `W[18:0]`: odd (R66). -/
def parityOdd (coverage : BitVec 19) : Bool := popcount coverage % 2 == 1

/-- `dec_valid` (R70). -/
def gateValid (frValid : Bool) (cls : FrameClass) : Bool := frValid && decide (cls ≠ .unknown)

/-- `err[2]`, `UnknownFrameHeader` (R70). -/
def gateUnknownHeader (frValid : Bool) (cls : FrameClass) : Bool := frValid && decide (cls = .unknown)

/-- The error wires `err[2:0]` (R81): bit 0 `TruncatedFrame`, bit 1 `ResyncDetected`, bit 2 `UnknownFrameHeader`. -/
def State.err (s : State) : BitVec 3 :=
  BitVec.ofBool s.dec.unknownHeader ++ BitVec.ofBool s.regs.errResync ++ BitVec.ofBool s.regs.errTrunc

/-- The one-cycle pulses clear (R52). -/
def Regs.clearPulses (r : Regs) : Regs := { r with frValid := false, errTrunc := false, errResync := false }

end Sys2Proof.Machine
end

