-- ==== Sys2Proof/WellFormed.lean ====
section
/-! DEFINITION. What an instruction must satisfy beyond the widths of its fields: a configuration value is not reserved
(R47). A timestamp's width TS_W is in its type (R7, R11). -/

namespace Sys2Proof

/-- The two reserved configuration values of R47. -/
def Instr.reserved : Instr → Bool
  | .edgeRsvd | .sxRsvd => true
  | .std16 _ _ | .enh18 _ _ | .unk000 _ | .unk010 _ | .unk011 _ => false
  | .reset _ _ | .idle | .eos | .sample _ _ _ | .sampleEos _ _ _ => false
  | .huntSkip _ _ _ _ | .start _ _ _ _ | .accum _ _ _ _ | .complete _ _ _ _ | .resync _ _ _ _ => false
  | .edgeRising | .edgeFalling | .edgeBoth | .sxUnsigned | .sxOffset | .sxTwos | .alignOff | .alignOn => false

/-- A well-formed instruction: not a reserved configuration (R47). -/
def Instr.wellFormed (i : Instr) : Bool := !i.reserved

/-- Port levels with a legal configuration (R12, R13, R47, R98). -/
def Ports.legalConfig (p : Ports) : Bool := p.cfgSyncEdge != 3#2 && p.cfgSignMode != 3#2

end Sys2Proof
end

