-- ==== Sys2Proof/Decode.lean ====
section
/-! DEFINITION. The decoder of each format of spec/opcode_table.json, the table's rows, the encoder, and the host's
`decodeTableWord`. -/

namespace Sys2Proof

/-! ## The frame word (30_encoding.md section 1) -/

/-- The mode classifier of R65; it reads only `W[19:17]`. -/
def classify (w : FrameWord) : FrameClass :=
  if w.getLsbD 19 then .enh18
  else if w.extractLsb' 17 3 = 1#3 then .std16
  else .unknown

/-- A 20-bit word as the instruction of its frame class (R38, R39, R41). -/
def decodeFrame (w : FrameWord) : Instr :=
  match classify w with
  | .enh18 => .enh18 (w.extractLsb' 1 18) (w.getLsbD 0)
  | .std16 => .std16 (w.extractLsb' 1 16) (w.getLsbD 0)
  | .unknown =>
    if w.extractLsb' 17 3 = 0#3 then .unk000 (w.extractLsb' 0 17)
    else if w.extractLsb' 17 3 = 2#3 then .unk010 (w.extractLsb' 0 17)
    else .unk011 (w.extractLsb' 0 17)

/-! ## The control word and the SAMPLE forms (30_encoding.md section 2) -/

/-- The operation a control word selects, with the levels of the sample's ports (R44). -/
def decodeControl (c : ControlWord) (sync data : Bool) (ts : Timestamp) : Instr :=
  if c.getLsbD 2 then .reset (c.getLsbD 1) (c.getLsbD 0)
  else if c.getLsbD 1 then (if c.getLsbD 0 then .sampleEos sync data ts else .eos)
  else if c.getLsbD 0 then .sample sync data ts
  else .idle

/-- The form of a sample, from `cnt` and the edge detector's answer (R45, in the order of R52: the edge test before the
count test). `none` for `cnt` in 20..31, which R54's five conditions leave out (U10). -/
def selectForm (cnt : Count) (edge : Bool) : Option SampleForm :=
  if cnt = 0#5 then some (if edge then .start else .huntSkip)
  else if 19#5 < cnt then none
  else if edge then some .resync
  else if cnt = 19#5 then some .complete
  else some .accum

/-- The instruction of a SAMPLE form. -/
def SampleForm.instr : SampleForm → Bool → Bool → Bool → Timestamp → Instr
  | .huntSkip => .huntSkip
  | .start => .start
  | .accum => .accum
  | .complete => .complete
  | .resync => .resync

/-- Why a word is rejected. -/
inductive DecodeError
  /-- A word with a bit set above its format's width. -/
  | bitsAboveWord
  /-- A SAMPLE form whose control word has `rst = 1` or `in_valid = 0` (R45). -/
  | notASample
  /-- A SAMPLE form with `cnt` in 20..31, for which R45 has no form. -/
  | noFormAtCount
  deriving DecidableEq, Repr

/-- A SAMPLE form from its control word and the condition on the state (R45; mask `0x5`, match `0x1`). -/
def decodeForm (c : ControlWord) (cnt : Count) (edge sync data : Bool) (ts : Timestamp) : Except DecodeError Instr :=
  if c &&& 5#3 = 1#3 then
    match selectForm cnt edge with
    | some f => .ok (f.instr (c.getLsbD 1) sync data ts)
    | none => .error .noFormAtCount
  else .error .notASample

/-! ## The configuration inputs (30_encoding.md section 3) -/

/-- `cfg_sync_edge` (R12). -/
def decodeSyncEdge (v : BitVec 2) : Instr :=
  if v = 0#2 then .edgeRising else if v = 1#2 then .edgeFalling else if v = 2#2 then .edgeBoth else .edgeRsvd

/-- `cfg_sign_mode` (R13). -/
def decodeSignMode (v : BitVec 2) : Instr :=
  if v = 0#2 then .sxUnsigned else if v = 1#2 then .sxOffset else if v = 2#2 then .sxTwos else .sxRsvd

/-- `cfg_align` (R14). -/
def decodeAlign (v : BitVec 1) : Instr := if v = 0#1 then .alignOff else .alignOn

/-! ## The decoder and the encoder -/

/-- The decoder: total, and a rejection has a name. -/
def decode : Code → Except DecodeError Instr
  | .frame w => .ok (decodeFrame w)
  | .control c sync data ts => .ok (decodeControl c sync data ts)
  | .sampleForm c cnt edge sync data ts => decodeForm c cnt edge sync data ts
  | .cfgSyncEdge v => .ok (decodeSyncEdge v)
  | .cfgSignMode v => .ok (decodeSignMode v)
  | .cfgAlign v => .ok (decodeAlign v)

/-- The word of an Unknown frame with the given header. -/
def encodeUnknown (header : BitVec 3) (rest : BitVec 17) : FrameWord := header ++ rest

/-- The control word of a SAMPLE form: `rst = 0`, `in_valid = 1`, and `in_eos` free (R45). -/
def encodeFormControl (inEos : Bool) : ControlWord := 0#1 ++ BitVec.ofBool inEos ++ 1#1

/-- The encoder, from the same tables. Port levels that an operation ignores are written as zero; a SAMPLE form is
written with one state that selects it. -/
def encode : Instr → Code
  | .std16 position parity => .frame (1#3 ++ position ++ BitVec.ofBool parity)
  | .enh18 position parity => .frame (1#1 ++ position ++ BitVec.ofBool parity)
  | .unk000 rest => .frame (encodeUnknown 0#3 rest)
  | .unk010 rest => .frame (encodeUnknown 2#3 rest)
  | .unk011 rest => .frame (encodeUnknown 3#3 rest)
  | .reset inEos inValid => .control (1#1 ++ BitVec.ofBool inEos ++ BitVec.ofBool inValid) false false 0
  | .idle => .control 0#3 false false 0
  | .sample sync data ts => .control 1#3 sync data ts
  | .eos => .control 2#3 false false 0
  | .sampleEos sync data ts => .control 3#3 sync data ts
  | .huntSkip inEos sync data ts => .sampleForm (encodeFormControl inEos) 0#5 false sync data ts
  | .start inEos sync data ts => .sampleForm (encodeFormControl inEos) 0#5 true sync data ts
  | .accum inEos sync data ts => .sampleForm (encodeFormControl inEos) 1#5 false sync data ts
  | .complete inEos sync data ts => .sampleForm (encodeFormControl inEos) 19#5 false sync data ts
  | .resync inEos sync data ts => .sampleForm (encodeFormControl inEos) 1#5 true sync data ts
  | .edgeRising => .cfgSyncEdge 0#2
  | .edgeFalling => .cfgSyncEdge 1#2
  | .edgeBoth => .cfgSyncEdge 2#2
  | .edgeRsvd => .cfgSyncEdge 3#2
  | .sxUnsigned => .cfgSignMode 0#2
  | .sxOffset => .cfgSignMode 1#2
  | .sxTwos => .cfgSignMode 2#2
  | .sxRsvd => .cfgSignMode 3#2
  | .alignOff => .cfgAlign 0#1
  | .alignOn => .cfgAlign 1#1

/-! ## The rows of spec/opcode_table.json -/

/-- The format of an encoded instruction. -/
def Code.format : Code → Format
  | .frame _ => .frame
  | .control _ _ _ _ => .control
  | .sampleForm _ _ _ _ _ _ => .sampleForm
  | .cfgSyncEdge _ => .cfgSyncEdge
  | .cfgSignMode _ => .cfgSignMode
  | .cfgAlign _ => .cfgAlign

/-- The bits of an encoded instruction that the table numbers. -/
def Code.bits : Code → BitVec 20
  | .frame w => w
  | .control c _ _ _ => c.setWidth 20
  | .sampleForm c _ _ _ _ _ => c.setWidth 20
  | .cfgSyncEdge v => v.setWidth 20
  | .cfgSignMode v => v.setWidth 20
  | .cfgAlign v => v.setWidth 20

/-- The mask and match of an instruction's row. -/
def Instr.row : Instr → Format × BitVec 20 × BitVec 20
  | .std16 _ _ => (.frame, 0xE0000#20, 0x20000#20)
  | .enh18 _ _ => (.frame, 0x80000#20, 0x80000#20)
  | .unk000 _ => (.frame, 0xE0000#20, 0x00000#20)
  | .unk010 _ => (.frame, 0xE0000#20, 0x40000#20)
  | .unk011 _ => (.frame, 0xE0000#20, 0x60000#20)
  | .reset _ _ => (.control, 0x4#20, 0x4#20)
  | .idle => (.control, 0x7#20, 0x0#20)
  | .sample _ _ _ => (.control, 0x7#20, 0x1#20)
  | .eos => (.control, 0x7#20, 0x2#20)
  | .sampleEos _ _ _ => (.control, 0x7#20, 0x3#20)
  | .huntSkip _ _ _ _ => (.sampleForm, 0x5#20, 0x1#20)
  | .start _ _ _ _ => (.sampleForm, 0x5#20, 0x1#20)
  | .accum _ _ _ _ => (.sampleForm, 0x5#20, 0x1#20)
  | .complete _ _ _ _ => (.sampleForm, 0x5#20, 0x1#20)
  | .resync _ _ _ _ => (.sampleForm, 0x5#20, 0x1#20)
  | .edgeRising => (.cfgSyncEdge, 0x3#20, 0x0#20)
  | .edgeFalling => (.cfgSyncEdge, 0x3#20, 0x1#20)
  | .edgeBoth => (.cfgSyncEdge, 0x3#20, 0x2#20)
  | .edgeRsvd => (.cfgSyncEdge, 0x3#20, 0x3#20)
  | .sxUnsigned => (.cfgSignMode, 0x3#20, 0x0#20)
  | .sxOffset => (.cfgSignMode, 0x3#20, 0x1#20)
  | .sxTwos => (.cfgSignMode, 0x3#20, 0x2#20)
  | .sxRsvd => (.cfgSignMode, 0x3#20, 0x3#20)
  | .alignOff => (.cfgAlign, 0x1#20, 0x0#20)
  | .alignOn => (.cfgAlign, 0x1#20, 0x1#20)

/-- A frame word is in the table's row of a mask and a match. -/
def inRow (w mask value : FrameWord) : Bool := w &&& mask == value

/-! ## The host's table words -/

/-- A number read as a word of a format, its operand ports at zero; rejected where a bit stands above the word. -/
def Format.code (f : Format) (w : Nat) : Except DecodeError Code :=
  match f with
  | .frame => if w < 2 ^ 20 then .ok (.frame (BitVec.ofNat 20 w)) else .error .bitsAboveWord
  | .control => if w < 2 ^ 3 then .ok (.control (BitVec.ofNat 3 w) false false 0) else .error .bitsAboveWord
  | .sampleForm =>
    if w < 2 ^ 3 then .ok (.sampleForm (BitVec.ofNat 3 w) 0#5 false false false 0) else .error .bitsAboveWord
  | .cfgSyncEdge => if w < 2 ^ 2 then .ok (.cfgSyncEdge (BitVec.ofNat 2 w)) else .error .bitsAboveWord
  | .cfgSignMode => if w < 2 ^ 2 then .ok (.cfgSignMode (BitVec.ofNat 2 w)) else .error .bitsAboveWord
  | .cfgAlign => if w < 2 ^ 1 then .ok (.cfgAlign (BitVec.ofNat 1 w)) else .error .bitsAboveWord

/-- The format that a number of bits stands for. The table's control, form and configuration rows are all one byte in
whole bytes and share their words; DESIGN CHOICE (log 10, safe): a byte is the control word. -/
def tableFormat (nbits : Nat) : Option Format :=
  if nbits = 24 ∨ nbits = 20 then some .frame
  else if nbits = 8 ∨ nbits = 3 then some .control
  else if nbits = 2 then some .cfgSyncEdge
  else if nbits = 1 then some .cfgAlign
  else none

/-- The encoded instruction of a table word. -/
def tableCode (nbits w : Nat) : Option Code :=
  match tableFormat nbits with
  | some f => (f.code w).toOption
  | none => none

/-- The instruction the decoder reads from a table word. -/
def decodeTableWord (nbits w : Nat) : Option Instr :=
  match tableCode nbits w with
  | some c => (decode c).toOption
  | none => none

end Sys2Proof
end

