-- ==== Sys2Proof/Machine/Operands.lean ====
section
/-! DEFINITION. The operands: the position field of a frame word, the number the scale unit makes of it, and the
frame-start edge of a sample. -/

namespace Sys2Proof.Machine

/-! ## The position (R29, R42) -/

/-- `dec_position` of a Standard16 frame: zero-extended (R42, R67). -/
def positionStd16 (position : BitVec 16) : Position := position.setWidth 18

/-- `dec_position` of a frame word: 0 for UNKNOWN (R67 to R70). -/
def decPosition (w : FrameWord) : Position :=
  match classify w with
  | .std16 => positionStd16 (w.extractLsb' 1 16)
  | .enh18 => w.extractLsb' 1 18
  | .unknown => 0#18

/-! ## The sign-extend/scale unit (42_scale.md) -/

/-- The field width of a class (R74). The UNKNOWN class has no field; R79 answers 0 for it before the width is used. -/
def fieldWidth : FrameClass → Nat
  | .std16 => 16
  | .enh18 => 18
  | .unknown => 18

/-- The sign interpretation of a `w`-bit position `p` (R75 to R77), on integers. -/
def signedPosition (mode : SignMode) (w p : Nat) : Int :=
  match mode with
  | .unsigned => (p : Int)
  | .offsetBinary => (p : Int) - 2 ^ (w - 1)
  | .twosComplement => if 2 ^ (w - 1) ≤ p then (p : Int) - 2 ^ w else (p : Int)

/-- Alignment (R78): a Standard16 value times 4. -/
def alignValue (align : Bool) (cls : FrameClass) (v : Int) : Int :=
  if align && decide (cls = .std16) then v * 4 else v

/-- The unit's integer before the wrap to 20 bits (R74). -/
def scaleValue (cls : FrameClass) (position : Position) (mode : SignMode) (align : Bool) : Int :=
  match cls with
  | .unknown => 0
  | .std16 => alignValue align .std16 (signedPosition mode (fieldWidth .std16) (position.toNat % 2 ^ fieldWidth .std16))
  | .enh18 => alignValue align .enh18 (signedPosition mode (fieldWidth .enh18) (position.toNat % 2 ^ fieldWidth .enh18))

/-- `dec_pos_fx` (R74): the value modulo 2^20. -/
def scale (cls : FrameClass) (position : Position) (mode : SignMode) (align : Bool) : FixedPoint :=
  BitVec.ofInt 20 (scaleValue cls position mode align)

/-! ## The frame-start edge (R49, R50) -/

/-- The edge function of R49; its second half is R50's rule for the first sample of a stream. -/
def startEdge (prevValid prevSync sync : Bool) (sel : SyncEdge) : Bool :=
  if prevValid then
    match sel with
    | .rising => !prevSync && sync
    | .falling => prevSync && !sync
    | .both => prevSync != sync
  else
    match sel with
    | .rising => sync
    | .falling => !sync
    | .both => true

/-- Whether a sample with this SYNC level would be a frame-start edge in the current state (R49). -/
def State.isEdge (s : State) (sync : Bool) : Bool := startEdge s.regs.prevValid s.regs.prevSync sync s.cfg.syncEdge

/-- The form a sample with this SYNC level takes in the current state (R45). -/
def State.form (s : State) (sync : Bool) : Option SampleForm := selectForm s.regs.cnt (s.isEdge sync)

end Sys2Proof.Machine
end

