-- ==== Sys2Proof/Machine/Ops.lean ====
section
/-! DEFINITION. The shared operations: the decoder's outputs, the register writes of each SAMPLE form, END_OF_STREAM,
and the sequencing of outcomes. The block has no memory (R27) and takes no exception: an error is a pulse (R81, R88),
signalled by `Regs.signalResync` and `Regs.endOfStream` for the assembler and by `decodeUnknown` for the decoder. -/

namespace Sys2Proof.Machine

/-! ## The FrameDecoder's outputs (41_decoder.md section 2) -/

/-- STD16 (R67), with `dec_pos_fx` of R74. -/
def decodeStd16 (frValid : Bool) (position : BitVec 16) (parity : Bool) (cfg : Cfg) : DecOut where
  valid         := gateValid frValid .std16
  mode          := false
  position      := positionStd16 position
  parityOk      := parityEven (position ++ BitVec.ofBool parity)
  posFx         := scale .std16 (positionStd16 position) cfg.signMode cfg.align
  unknownHeader := gateUnknownHeader frValid .std16

/-- ENH18 (R68), with `dec_pos_fx` of R74. -/
def decodeEnh18 (frValid : Bool) (position : BitVec 18) (parity : Bool) (cfg : Cfg) : DecOut where
  valid         := gateValid frValid .enh18
  mode          := true
  position      := position
  parityOk      := parityOdd (position ++ BitVec.ofBool parity)
  posFx         := scale .enh18 position cfg.signMode cfg.align
  unknownHeader := gateUnknownHeader frValid .enh18

/-- UNKNOWN (R69, R70, R79): signals `UnknownFrameHeader` and decodes nothing. -/
def decodeUnknown (frValid : Bool) : DecOut where
  valid         := gateValid frValid .unknown
  mode          := false
  position      := 0#18
  parityOk      := false
  posFx         := 0#20
  unknownHeader := gateUnknownHeader frValid .unknown

/-- The outputs of R22 as the function of `fr_valid`, `fr_data` and the configuration that they are (R64, R70, R73). -/
def decodeOutputs (frValid : Bool) (w : FrameWord) (cfg : Cfg) : DecOut :=
  match classify w with
  | .std16 => decodeStd16 frValid (w.extractLsb' 1 16) (w.getLsbD 0) cfg
  | .enh18 => decodeEnh18 frValid (w.extractLsb' 1 18) (w.getLsbD 0) cfg
  | .unknown => decodeUnknown frValid

/-- `dec_pos_fx` of a frame word under a configuration (R74, R79). -/
def posFxOf (w : FrameWord) (cfg : Cfg) : FixedPoint := scale (classify w) (decPosition w) cfg.signMode cfg.align

/-- The state after a clock edge that wrote the registers `r`: the combinational outputs follow them (R22, R104). -/
def State.afterEdge (s : State) (r : Regs) : State :=
  { s with regs := r, dec := decodeOutputs r.frValid r.frData s.cfg }

/-- The outputs of the decoder driven by a frame-class instruction. -/
def State.drive (s : State) (d : DecOut) : State := { s with dec := d }

/-- Selecting an edge convention (R12): read by the next sample (R15, R101). -/
def State.selectSyncEdge (s : State) (e : SyncEdge) : State := { s with cfg := { s.cfg with syncEdge := e } }

/-- Selecting a sign mode (R13): `dec_pos_fx` changes in the same cycle, and no other output (R102). -/
def State.selectSignMode (s : State) (m : SignMode) : State :=
  let cfg := { s.cfg with signMode := m }
  { s with cfg := cfg, dec := { s.dec with posFx := posFxOf s.regs.frData cfg } }

/-- Selecting the alignment (R14): `dec_pos_fx` changes in the same cycle, and no other output (R102). -/
def State.selectAlign (s : State) (a : Bool) : State :=
  let cfg := { s.cfg with align := a }
  { s with cfg := cfg, dec := { s.dec with posFx := posFxOf s.regs.frData cfg } }

/-! ## The FrameAssembler's register writes (40_assembler.md section 3) -/

/-- The shift-in of one bit at bit 0 (R57). -/
def shiftIn (acc : Accumulator) (b : Bool) : Accumulator := acc.extractLsb' 0 18 ++ BitVec.ofBool b

/-- A frame begins with this sample as frame bit 0 (R56, R59). -/
def Regs.beginFrame (r : Regs) (sync data : Bool) (ts : Timestamp) : Regs :=
  { r with
    accData := (BitVec.ofBool data).setWidth 19
    accSync := (BitVec.ofBool sync).setWidth 19
    tsStart := ts
    cnt     := 1#5 }

/-- `signal ResyncDetected` (R59, R83). -/
def Regs.signalResync (r : Regs) : Regs := { r with errResync := true }

/-- ACCUM's writes (R57). -/
def Regs.accumulate (r : Regs) (sync data : Bool) : Regs :=
  { r with
    accData := shiftIn r.accData data
    accSync := shiftIn r.accSync sync
    cnt     := r.cnt + 1#5 }

/-- COMPLETE's writes (R58). -/
def Regs.completeFrame (r : Regs) (sync data : Bool) (ts : Timestamp) : Regs :=
  { r with
    frData    := r.accData ++ BitVec.ofBool data
    frSync    := r.accSync ++ BitVec.ofBool sync
    frTsStart := r.tsStart
    frTsEnd   := ts
    frValid   := true
    cnt       := 0#5 }

/-- `prev_valid <- 1; prev_sync <- in.in_sync`, in every form (R54). -/
def Regs.notePrevious (r : Regs) (sync : Bool) : Regs := { r with prevValid := true, prevSync := sync }

/-- The writes of a form of SAMPLE (R55 to R59). -/
def Regs.applyForm (r : Regs) (f : SampleForm) (sync data : Bool) (ts : Timestamp) : Regs :=
  match f with
  | .huntSkip => r
  | .start => r.beginFrame sync data ts
  | .accum => r.accumulate sync data
  | .complete => r.completeFrame sync data ts
  | .resync => (r.beginFrame sync data ts).signalResync

/-- The sample part of R52: the pulses clear, the form's writes, the edge detector's memory. -/
def Regs.acceptSample (r : Regs) (f : SampleForm) (sync data : Bool) (ts : Timestamp) : Regs :=
  (r.clearPulses.applyForm f sync data ts).notePrevious sync

/-- END_OF_STREAM (R60), with `signal TruncatedFrame` for a frame in progress (R82). -/
def Regs.endOfStream (r : Regs) : Regs :=
  { r with
    errTrunc  := if r.cnt = 0#5 then r.errTrunc else true
    cnt       := 0#5
    prevValid := false
    prevSync  := false }

/-- The end-of-stream part of R52: only where `in_eos = 1`. -/
def Regs.endStreamIf (inEos : Bool) (r : Regs) : Regs := if inEos then r.endOfStream else r

/-! ## Running a sample, and one unit after another -/

/-- SAMPLE, alone (`inEos = 0`) or in SAMPLE_EOS (R52, R54, R61): the form the state selects. -/
def runSample (inEos sync data : Bool) (ts : Timestamp) (s : State) : Host.Outcome State Fault Refusal :=
  match s.form sync with
  | some f => .next (s.afterEdge ((s.regs.acceptSample f sync data ts).endStreamIf inEos))
  | none => .fault .cntOutOfRange

/-- A form row of R45: the same sample, in a state that selects this form. -/
def runForm (f : SampleForm) (inEos sync data : Bool) (ts : Timestamp) (s : State) :
    Host.Outcome State Fault Refusal :=
  match s.form sync with
  | some g =>
    if g = f then .next (s.afterEdge ((s.regs.acceptSample f sync data ts).endStreamIf inEos))
    else .refused .formNotSelected
  | none => .fault .cntOutOfRange

/-- One unit's instruction after another within a cycle. -/
def andThen (o : Host.Outcome State Fault Refusal) (k : State → Host.Outcome State Fault Refusal) :
    Host.Outcome State Fault Refusal :=
  match o with
  | .next s => k s
  | .fault f => .fault f
  | .refused r => .refused r

end Sys2Proof.Machine
end

