-- ==== Sys2Proof/Machine/Control.lean ====
section
/-! DEFINITION. The control words of R44: one rising edge of `clk` for the FrameAssembler. -/

namespace Sys2Proof.Machine

/-- RESET (R95, R87): every register of R25; `in_eos` and `in_valid` are ignored, and the configuration is not reset. -/
def execReset (_inEos _inValid : Bool) (s : State) : Host.Outcome State Fault Refusal :=
  .next (s.afterEdge Regs.reset)

/-- IDLE (R53): only the pulses clear. -/
def execIdle (s : State) : Host.Outcome State Fault Refusal :=
  .next (s.afterEdge s.regs.clearPulses)

/-- SAMPLE (R54): the form the state selects. -/
def execSample (sync data : Bool) (ts : Timestamp) (s : State) : Host.Outcome State Fault Refusal :=
  runSample false sync data ts s

/-- EOS (R60): the pulses clear, then END_OF_STREAM. -/
def execEos (s : State) : Host.Outcome State Fault Refusal :=
  .next (s.afterEdge s.regs.clearPulses.endOfStream)

/-- SAMPLE_EOS (R61): the sample's form, then END_OF_STREAM on its result. -/
def execSampleEos (sync data : Bool) (ts : Timestamp) (s : State) : Host.Outcome State Fault Refusal :=
  runSample true sync data ts s

end Sys2Proof.Machine
end

