-- ==== Sys2Proof/Machine/Frame.lean ====
section
/-! DEFINITION. The frame-class rows: the FrameDecoder (41_decoder.md). They drive the `dec_*` ports and `err[2]` and
write no register (R64). The rules take `W = fr_data`, and a step runs the row of `fr_data` alone (`frameInstr`). DESIGN CHOICE
(log 15, unsafe): run in a state whose `fr_data` holds another word, a row drives the outputs from its own operands. -/

namespace Sys2Proof.Machine

/-- STD16 (R67), of the word its operands are the fields of (log 15). -/
def execStd16 (position : BitVec 16) (parity : Bool) (s : State) : Host.Outcome State Fault Refusal :=
  .next (s.drive (decodeStd16 s.regs.frValid position parity s.cfg))

/-- ENH18 (R68), of the word its operands are the fields of (log 15). -/
def execEnh18 (position : BitVec 18) (parity : Bool) (s : State) : Host.Outcome State Fault Refusal :=
  .next (s.drive (decodeEnh18 s.regs.frValid position parity s.cfg))

/-- UNK000 (R69): header `000`; the rest is ignored (log 15 for another `fr_data`). -/
def execUnk000 (_rest : BitVec 17) (s : State) : Host.Outcome State Fault Refusal :=
  .next (s.drive (decodeUnknown s.regs.frValid))

/-- UNK010 (R69): header `010`; the rest is ignored (log 15 for another `fr_data`). -/
def execUnk010 (_rest : BitVec 17) (s : State) : Host.Outcome State Fault Refusal :=
  .next (s.drive (decodeUnknown s.regs.frValid))

/-- UNK011 (R69): header `011`; the rest is ignored (log 15 for another `fr_data`). -/
def execUnk011 (_rest : BitVec 17) (s : State) : Host.Outcome State Fault Refusal :=
  .next (s.drive (decodeUnknown s.regs.frValid))

end Sys2Proof.Machine
end

