-- ==== Sys2Proof/Machine/Sample.lean ====
section
/-! DEFINITION. The five SAMPLE forms as rows of their own (R45): the sample in a state that selects the form. `inEos` is
the bit `C[1]` that the rows' mask `0x5` leaves free: a form stands in a SAMPLE or in a SAMPLE_EOS. -/

namespace Sys2Proof.Machine

/-- HUNT_SKIP (R55). -/
def execHuntSkip (inEos sync data : Bool) (ts : Timestamp) (s : State) : Host.Outcome State Fault Refusal :=
  runForm .huntSkip inEos sync data ts s

/-- START (R56). -/
def execStart (inEos sync data : Bool) (ts : Timestamp) (s : State) : Host.Outcome State Fault Refusal :=
  runForm .start inEos sync data ts s

/-- ACCUM (R57). -/
def execAccum (inEos sync data : Bool) (ts : Timestamp) (s : State) : Host.Outcome State Fault Refusal :=
  runForm .accum inEos sync data ts s

/-- COMPLETE (R58). -/
def execComplete (inEos sync data : Bool) (ts : Timestamp) (s : State) : Host.Outcome State Fault Refusal :=
  runForm .complete inEos sync data ts s

/-- RESYNC (R59). -/
def execResync (inEos sync data : Bool) (ts : Timestamp) (s : State) : Host.Outcome State Fault Refusal :=
  runForm .resync inEos sync data ts s

end Sys2Proof.Machine
end

