-- ==== Sys2Proof/Machine/Select.lean ====
section
/-! DEFINITION. The configuration rows: each selects a value of a configuration input (10_state.md section 3), which is read
at its next use (R15). -/

namespace Sys2Proof.Machine

/-- EDGE_RISING (R12, R49). -/
def execEdgeRising (s : State) : Host.Outcome State Fault Refusal := .next (s.selectSyncEdge .rising)

/-- EDGE_FALLING (R12, R49). -/
def execEdgeFalling (s : State) : Host.Outcome State Fault Refusal := .next (s.selectSyncEdge .falling)

/-- EDGE_BOTH (R12, R49). -/
def execEdgeBoth (s : State) : Host.Outcome State Fault Refusal := .next (s.selectSyncEdge .both)

/-- EDGE_RSVD (R47, U1): refused. -/
def execEdgeRsvd (_s : State) : Host.Outcome State Fault Refusal := .refused .reservedSyncEdge

/-- SX_UNSIGNED (R75, R102). -/
def execSxUnsigned (s : State) : Host.Outcome State Fault Refusal := .next (s.selectSignMode .unsigned)

/-- SX_OFFSET (R76, R102). -/
def execSxOffset (s : State) : Host.Outcome State Fault Refusal := .next (s.selectSignMode .offsetBinary)

/-- SX_TWOS (R77, R102). -/
def execSxTwos (s : State) : Host.Outcome State Fault Refusal := .next (s.selectSignMode .twosComplement)

/-- SX_RSVD (R47, U2): refused. -/
def execSxRsvd (_s : State) : Host.Outcome State Fault Refusal := .refused .reservedSignMode

/-- ALIGN_OFF (R78, R102). -/
def execAlignOff (s : State) : Host.Outcome State Fault Refusal := .next (s.selectAlign false)

/-- ALIGN_ON (R78, R102). -/
def execAlignOn (s : State) : Host.Outcome State Fault Refusal := .next (s.selectAlign true)

end Sys2Proof.Machine
end

