-- ==== Sys2Proof/Machine/Dispatch.lean ====
section
/-! DEFINITION. One arm per row of spec/opcode_table.json. -/

namespace Sys2Proof.Machine

def exec (i : Instr) (s : State) : Host.Outcome State Fault Refusal :=
  match i with
  | .std16 position parity => Sys2Proof.Machine.execStd16 position parity s
  | .enh18 position parity => Sys2Proof.Machine.execEnh18 position parity s
  | .unk000 rest => Sys2Proof.Machine.execUnk000 rest s
  | .unk010 rest => Sys2Proof.Machine.execUnk010 rest s
  | .unk011 rest => Sys2Proof.Machine.execUnk011 rest s
  | .reset inEos inValid => Sys2Proof.Machine.execReset inEos inValid s
  | .idle => Sys2Proof.Machine.execIdle s
  | .sample sync data ts => Sys2Proof.Machine.execSample sync data ts s
  | .eos => Sys2Proof.Machine.execEos s
  | .sampleEos sync data ts => Sys2Proof.Machine.execSampleEos sync data ts s
  | .huntSkip inEos sync data ts => Sys2Proof.Machine.execHuntSkip inEos sync data ts s
  | .start inEos sync data ts => Sys2Proof.Machine.execStart inEos sync data ts s
  | .accum inEos sync data ts => Sys2Proof.Machine.execAccum inEos sync data ts s
  | .complete inEos sync data ts => Sys2Proof.Machine.execComplete inEos sync data ts s
  | .resync inEos sync data ts => Sys2Proof.Machine.execResync inEos sync data ts s
  | .edgeRising => Sys2Proof.Machine.execEdgeRising s
  | .edgeFalling => Sys2Proof.Machine.execEdgeFalling s
  | .edgeBoth => Sys2Proof.Machine.execEdgeBoth s
  | .edgeRsvd => Sys2Proof.Machine.execEdgeRsvd s
  | .sxUnsigned => Sys2Proof.Machine.execSxUnsigned s
  | .sxOffset => Sys2Proof.Machine.execSxOffset s
  | .sxTwos => Sys2Proof.Machine.execSxTwos s
  | .sxRsvd => Sys2Proof.Machine.execSxRsvd s
  | .alignOff => Sys2Proof.Machine.execAlignOff s
  | .alignOn => Sys2Proof.Machine.execAlignOn s

end Sys2Proof.Machine
end

