-- ==== Sys2Proof/Machine/Cycle.lean ====
section
/-! DEFINITION. One clock cycle: the ports of the cycle, the instructions they select, and their order; and the
presentation of a table word to the machine. -/

namespace Sys2Proof.Machine

/-- The input levels of the coming cycle: the first entry of the list, or free levels where the list is empty (log 1). -/
def State.ports (s : State) : Ports :=
  match s.inputs with
  | p :: _ => p
  | [] => Config.undrivenPorts s.clock

/-- The cycle's ports are taken: one entry of the input sequence per clock edge (R9, R100). -/
def State.takePorts (s : State) : State := { s with inputs := s.inputs.tail, clock := s.clock + 1 }

/-- The control word `C = rst : in_eos : in_valid` of a cycle (R44). -/
def controlWord (p : Ports) : ControlWord :=
  BitVec.ofBool p.rst ++ BitVec.ofBool p.inEos ++ BitVec.ofBool p.inValid

/-- The FrameAssembler's instruction of a cycle (R44). -/
def controlInstr (p : Ports) : Instr := decodeControl (controlWord p) p.inSync p.inData p.inTs

/-- The edge detector's instruction of a cycle (R12). -/
def syncEdgeInstr (p : Ports) : Instr := decodeSyncEdge p.cfgSyncEdge

/-- The sign mode's instruction of a cycle (R13). -/
def signModeInstr (p : Ports) : Instr := decodeSignMode p.cfgSignMode

/-- The alignment's instruction of a cycle (R14). -/
def alignInstr (p : Ports) : Instr := decodeAlign (BitVec.ofBool p.cfgAlign)

/-- The configuration of a cycle takes effect before its clock edge (R15, log 5); a reserved value refuses the cycle (R47). -/
def configure (p : Ports) (s : State) : Host.Outcome State Fault Refusal :=
  andThen (exec (syncEdgeInstr p) s) fun s₁ =>
    andThen (exec (signModeInstr p) s₁) fun s₂ =>
      exec (alignInstr p) s₂

/-- The levels of the combinational ports during the coming cycle, before its clock edge: the registers as they are, under
the configuration of that cycle (R15, R22, R102); `none` where that configuration is reserved (R47). -/
def State.cycleOutputs (s : State) : Option DecOut :=
  match configure s.ports s with
  | .next t => some t.dec
  | .fault _ => none
  | .refused _ => none

/-- The FrameDecoder's instruction: the class of the word in `fr_data` (R64, R65). -/
def frameInstr (s : State) : Instr := decodeFrame s.regs.frData

/-- One clock cycle (R52): the configuration of the cycle, the FrameAssembler's instruction at the rising edge that ends it,
and the FrameDecoder's instruction on the frame word the edge leaves (R104). A control row's meaning is whole by itself and
already shows the outputs as of its edge; the decoder's row, which the circuit runs in every cycle, keeps them
(`frame_instr_keeps_settled` in Laws). -/
def cycle (s : State) : Host.Outcome State Fault Refusal :=
  andThen (configure s.ports s.takePorts) fun s₁ =>
    andThen (exec (controlInstr s.ports) s₁) fun s₂ =>
      exec (frameInstr s₂) s₂

/-- All input levels zero: IDLE, RISING, UNSIGNED, no alignment. -/
def quietPorts : Ports where
  rst         := false
  inValid     := false
  inData      := false
  inSync      := false
  inTs        := 0
  inEos       := false
  cfgSyncEdge := 0#2
  cfgSignMode := 0#2
  cfgAlign    := false

/-- An input cycle put before the others. -/
def State.push (s : State) (p : Ports) : State := { s with inputs := p :: s.inputs }

/-- The levels of a cycle with a given control word and sample, the configuration inputs zero. -/
def samplePorts (c : ControlWord) (sync data : Bool) (ts : Timestamp) : Ports :=
  { quietPorts with
    rst := c.getLsbD 2, inEos := c.getLsbD 1, inValid := c.getLsbD 0, inSync := sync, inData := data, inTs := ts }

/-- An encoded instruction presented so that the next cycle runs it (log 9). A frame word is presented as the machine
itself comes to hold one: the first 19 bits collected, and the 20th bit as the next sample (R58). A SAMPLE form is
presented as its sample. -/
def State.present (s : State) : Code → State
  | .frame w =>
    { s.push (samplePorts 1#3 false (w.getLsbD 0) 0) with
      regs := { s.regs with cnt := 19#5, accData := w.extractLsb' 1 19, prevValid := true, prevSync := false } }
  | .control c sync data ts => s.push (samplePorts c sync data ts)
  | .sampleForm c _ _ sync data ts => s.push (samplePorts c sync data ts)
  | .cfgSyncEdge v => s.push { quietPorts with cfgSyncEdge := v }
  | .cfgSignMode v => s.push { quietPorts with cfgSignMode := v }
  | .cfgAlign v => s.push { quietPorts with cfgAlign := v.getLsbD 0 }

/-- A table word presented to the next cycle; a number that is no word of the table leaves the state. -/
def State.presentWord (s : State) (nbits w : Nat) : State :=
  match tableCode nbits w with
  | some c => s.present c
  | none => s

end Sys2Proof.Machine
end

