-- ==== Sys2Proof/Machine/Step.lean ====
section
/-! DEFINITION. The step, one rising edge of `clk` (R9, R52), and the host's presentation of a table word. -/

namespace Sys2Proof.Machine

/-- One rising edge of `clk`. -/
def step (s : State) : Host.Outcome State Fault Refusal := cycle s

/-- The state with a table word placed where the next step finds its instruction. -/
def State.withFetchWord (s : State) (nbits w : Nat) : State := s.presentWord nbits w

end Sys2Proof.Machine
end

