-- ==== Sys2Proof/Safety.lean ====
section
/-! DEFINITION. What counts as a sound state, and the words claims are stated in: the invariant, runs of several steps,
streams of samples, and the relations between two runs. -/

namespace Sys2Proof.Machine

/-! ## The invariant -/

/-- What every reachable register state satisfies. -/
structure Regs.Inv (r : Regs) : Prop where
  /-- R16: "The values 20..31 are never reached". -/
  cnt_le           : r.cnt ≤ 19#5
  /-- R18: in FILL with `cnt = c`, `acc_data[18:c]` is 0. -/
  accData_high     : r.cnt ≠ 0#5 → r.accData.toNat < 2 ^ r.cnt.toNat
  /-- R18: `acc_sync` likewise. -/
  accSync_high     : r.cnt ≠ 0#5 → r.accSync.toNat < 2 ^ r.cnt.toNat
  /-- A frame in progress has had a sample of its stream (R17, R56). -/
  fill_valid       : r.cnt ≠ 0#5 → r.prevValid = true
  /-- `prev_sync` is 0 before the first sample of a stream (R25, R60). -/
  prevSync_clear   : r.prevValid = false → r.prevSync = false
  /-- A frame just completed leaves HUNT (R58). -/
  frValid_hunt     : r.frValid = true → r.cnt = 0#5
  /-- A truncation leaves HUNT at the start of a stream (R60, R82). -/
  errTrunc_hunt    : r.errTrunc = true → r.cnt = 0#5 ∧ r.prevValid = false
  /-- R86: `err[0]` and `fr_valid` never come from one step. -/
  trunc_no_frame   : r.errTrunc = true → r.frValid = false
  /-- R86: `err[1]` and `fr_valid` never come from one step. -/
  resync_no_frame  : r.errResync = true → r.frValid = false

/-- The combinational ports are the functions of the registers and the configuration that R22 says they are. -/
def State.Settled (s : State) : Prop := s.dec = decodeOutputs s.regs.frValid s.regs.frData s.cfg

/-- The model's invariant. -/
structure State.Inv (s : State) : Prop where
  regs    : s.regs.Inv
  settled : s.Settled

/-! ## Runs -/

/-- The states after each of `k` steps, the first step's first; `none` where one of them stops. -/
def trace : Nat → State → Option (List State)
  | 0, _ => some []
  | k + 1, s =>
    match step s with
    | .next t => (trace k t).map (t :: ·)
    | .fault _ => none
    | .refused _ => none

/-! ## Streams of samples -/

/-- A BitSample (00_scope.md section 6). -/
structure Sample where
  sync : Bool
  data : Bool
  ts   : Timestamp
  deriving DecidableEq, Repr, Inhabited

/-- The encoding of an edge convention (R12). -/
def SyncEdge.bits : SyncEdge → BitVec 2
  | .rising => 0#2
  | .falling => 1#2
  | .both => 2#2

/-- The encoding of a sign mode (R13). -/
def SignMode.bits : SignMode → BitVec 2
  | .unsigned => 0#2
  | .offsetBinary => 1#2
  | .twosComplement => 2#2

/-- The port levels that hold a configuration, with no sample, no end of stream and no reset: an IDLE cycle (R44). -/
def idlePorts (cfg : Cfg) : Ports :=
  { quietPorts with
    cfgSyncEdge := SyncEdge.bits cfg.syncEdge, cfgSignMode := SignMode.bits cfg.signMode, cfgAlign := cfg.align }

/-- The port levels of an EOS cycle (R44). -/
def eosPorts (cfg : Cfg) : Ports := { idlePorts cfg with inEos := true }

/-- The port levels that present a sample (R44). -/
def Sample.ports (cfg : Cfg) (x : Sample) : Ports :=
  { idlePorts cfg with inValid := true, inSync := x.sync, inData := x.data, inTs := x.ts }

/-- Which samples of a stream are frame-start edges (R49, R50), from the edge detector's memory before them. -/
def edgesOf (e : SyncEdge) : Bool → Bool → List Sample → List Bool
  | _, _, [] => []
  | prevValid, prevSync, x :: xs => startEdge prevValid prevSync x.sync e :: edgesOf e true x.sync xs

/-- The cadence of R62: an edge at the first sample of each of `n` frames of 20 samples, and at no other. -/
def cadence (n : Nat) : List Bool := (List.replicate n (true :: List.replicate 19 false)).flatten

/-- The RawFrame registers hold these 20 samples (R20, R28): `fr_data[19 - i] = fb[i]`, `fr_sync` in the same order, and
the timestamps of the first and the 20th. -/
def Regs.HoldsFrame (r : Regs) (f : List Sample) : Prop :=
  (∀ i : Fin 20, r.frData.getLsbD (19 - i) = (f.getD i default).data ∧
    r.frSync.getLsbD (19 - i) = (f.getD i default).sync) ∧
  r.frTsStart = (f.getD 0 default).ts ∧ r.frTsEnd = (f.getD 19 default).ts

/-! ## Two runs beside each other -/

/-- Two outcomes that stop alike, or go on in states related by `R`. -/
def sameOutcome (R : State → State → Prop) : Host.Outcome State Fault Refusal → Host.Outcome State Fault Refusal → Prop
  | .next s, .next t => R s t
  | .fault f, .fault g => f = g
  | .refused r, .refused q => r = q
  | .next _, .fault _ => False
  | .next _, .refused _ => False
  | .fault _, .next _ => False
  | .fault _, .refused _ => False
  | .refused _, .next _ => False
  | .refused _, .fault _ => False

/-- Port levels that differ at most in the legal settings of `cfg_sign_mode` and in `cfg_align` (R13, R14). -/
def Ports.SameButScale (p q : Ports) : Prop :=
  p.cfgSignMode ≠ 3#2 ∧ q.cfgSignMode ≠ 3#2 ∧
    { q with cfgSignMode := p.cfgSignMode, cfgAlign := p.cfgAlign } = p

/-- States that differ at most in the scale unit's configuration and its output. -/
structure State.SameButScale (s t : State) : Prop where
  regs     : s.regs = t.regs
  syncEdge : s.cfg.syncEdge = t.cfg.syncEdge
  dec      : { t.dec with posFx := s.dec.posFx } = s.dec
  clock    : s.clock = t.clock
  inputs   : List.Forall₂ Ports.SameButScale s.inputs t.inputs

/-- Registers that differ at most in their timestamps. -/
def Regs.SameButTimestamps (r q : Regs) : Prop :=
  { q with tsStart := r.tsStart, frTsStart := r.frTsStart, frTsEnd := r.frTsEnd } = r

/-- Port levels that differ at most in the timestamp. -/
def Ports.SameButTimestamp (p q : Ports) : Prop := { q with inTs := p.inTs } = p

/-- States that differ at most in timestamps. -/
structure State.SameButTimestamps (s t : State) : Prop where
  regs   : s.regs.SameButTimestamps t.regs
  cfg    : s.cfg = t.cfg
  dec    : s.dec = t.dec
  clock  : s.clock = t.clock
  inputs : List.Forall₂ Ports.SameButTimestamp s.inputs t.inputs

end Sys2Proof.Machine
end

