-- ==== Sys2Proof/Certificates/Slice0/Obligations.lean ====
section
/-! DEFINITION. The statements for the provers, from the numbered rules of spec/. `s.afterEdge r` is the state `s` with the
registers `r` and the combinational outputs recomputed from them, all else unchanged: the frame of every control row and
SAMPLE form is in that equation. -/

open Sys2Proof Sys2Proof.Machine

/-! ## Encoding -/

/-- No bit of an encoding is dropped: decoding the encoding of a well-formed instruction gives it back, for every row of
spec/opcode_table.json and every operand value. What the encoder writes where an operation ignores a port, and the state
it writes beside a SAMPLE form, are the MODEL'S CHOICE (log 11). -/
def Obligations.DecodeInvertsEncode : Prop :=
  ∀ i : Instr, i.wellFormed = true → decode (encode i) = .ok i

/-- R37 to R41: a frame word is one frame-class instruction, which encodes to that word. -/
def Obligations.EncodeInvertsFrameDecode : Prop :=
  ∀ w : FrameWord, encode (decodeFrame w) = .frame w

/-- R40: the headers of STD16 and ENH18 do not overlap, and testing them in either order gives the class. -/
def Obligations.FrameHeadersNeverOverlap : Prop :=
  ∀ w : FrameWord,
    ¬ (inRow w 0xE0000#20 0x20000#20 = true ∧ inRow w 0x80000#20 0x80000#20 = true) ∧
    classify w = (if inRow w 0xE0000#20 0x20000#20 then .std16
      else if inRow w 0x80000#20 0x80000#20 then .enh18 else .unknown) ∧
    classify w = (if inRow w 0x80000#20 0x80000#20 then .enh18
      else if inRow w 0xE0000#20 0x20000#20 then .std16 else .unknown)

/-- R41: every 20-bit word is in exactly one of the table's five frame rows, and the decoder reads that row. -/
def Obligations.EveryFrameWordHasOneRow : Prop :=
  ∀ w : FrameWord,
    ([(0xE0000#20, 0x20000#20), (0x80000#20, 0x80000#20), (0xE0000#20, 0x00000#20), (0xE0000#20, 0x40000#20),
      (0xE0000#20, 0x60000#20)].filter fun row => inRow w row.1 row.2) = [(decodeFrame w).row.2]

/-- Words written out from the spec's encodings decode to the instructions they stand for (R38, R39, R41, R44, R12, R13,
R14, R45), whatever the timestamp. -/
def Obligations.SpecWordsDecode : Prop :=
  ∀ ts : Timestamp,
    decode (.frame 0b00100000000000000011#20) = .ok (.std16 1#16 true) ∧
    decode (.frame 0b10000000000000000001#20) = .ok (.enh18 0#18 true) ∧
    decode (.frame 0b01000000000000000000#20) = .ok (.unk010 0#17) ∧
    decode (.control 0b001#3 true false ts) = .ok (.sample true false ts) ∧
    decode (.control 0b011#3 false true ts) = .ok (.sampleEos false true ts) ∧
    decode (.control 0b110#3 true true ts) = .ok (.reset true false) ∧
    decode (.sampleForm 0b011#3 19#5 false false true ts) = .ok (.complete true false true ts) ∧
    decode (.sampleForm 0b001#3 19#5 true true true ts) = .ok (.resync false true true ts) ∧
    decode (.cfgSyncEdge 0b01#2) = .ok .edgeFalling ∧
    decode (.cfgSignMode 0b10#2) = .ok .sxTwos ∧
    decode (.cfgAlign 0b1#1) = .ok .alignOn

/-! ## The frame classes -/

/-- R67: a Standard16 frame. The scale unit's output follows its own rule (R74); nothing else changes. The rule is the case
`s.regs.frData = w`; in any other state the row's own word decides, which is the MODEL'S CHOICE (log 15). -/
def Obligations.Standard16FrameIsDecoded : Prop :=
  ∀ (s : State) (w : FrameWord), w.extractLsb' 17 3 = 0b001#3 →
    decodeFrame w = .std16 (w.extractLsb' 1 16) (w.getLsbD 0) ∧
    exec (.std16 (w.extractLsb' 1 16) (w.getLsbD 0)) s = .next
      { s with dec :=
        { valid         := s.regs.frValid
          mode          := false
          position      := (w.extractLsb' 1 16).setWidth 18
          parityOk      := decide ((List.range 17).countP (fun i => w.getLsbD i) % 2 = 0)
          posFx         := scale .std16 ((w.extractLsb' 1 16).setWidth 18) s.cfg.signMode s.cfg.align
          unknownHeader := false } }

/-- R68: an Enhanced18 frame. The rule is the case
`s.regs.frData = w`; in any other state the row's own word decides, which is the MODEL'S CHOICE (log 15). -/
def Obligations.Enhanced18FrameIsDecoded : Prop :=
  ∀ (s : State) (w : FrameWord), w.getLsbD 19 = true →
    decodeFrame w = .enh18 (w.extractLsb' 1 18) (w.getLsbD 0) ∧
    exec (.enh18 (w.extractLsb' 1 18) (w.getLsbD 0)) s = .next
      { s with dec :=
        { valid         := s.regs.frValid
          mode          := true
          position      := w.extractLsb' 1 18
          parityOk      := decide ((List.range 19).countP (fun i => w.getLsbD i) % 2 = 1)
          posFx         := scale .enh18 (w.extractLsb' 1 18) s.cfg.signMode s.cfg.align
          unknownHeader := false } }

/-- R69: a frame whose header matches neither mode, in each of its three rows. The rule is the case
`s.regs.frData = w`; in any other state the row's own word decides, which is the MODEL'S CHOICE (log 15). -/
def Obligations.UnknownFrameIsReported : Prop :=
  ∀ (s : State) (w : FrameWord),
    (w.extractLsb' 17 3 = 0b000#3 → decodeFrame w = .unk000 (w.extractLsb' 0 17)) ∧
    (w.extractLsb' 17 3 = 0b010#3 → decodeFrame w = .unk010 (w.extractLsb' 0 17)) ∧
    (w.extractLsb' 17 3 = 0b011#3 → decodeFrame w = .unk011 (w.extractLsb' 0 17)) ∧
    ((w.extractLsb' 17 3 = 0b000#3 ∨ w.extractLsb' 17 3 = 0b010#3 ∨ w.extractLsb' 17 3 = 0b011#3) →
      exec (decodeFrame w) s = .next
        { s with dec :=
          { valid         := false
            mode          := false
            position      := 0#18
            parityOk      := false
            posFx         := 0#20
            unknownHeader := s.regs.frValid } })

/-- R66: the parity check over the coverage of the frame's class, and as the comparison of the parity bit `W[0]` with the
parity the position bits call for. -/
def Obligations.ParityChecksTheCoverage : Prop :=
  ∀ (v : Bool) (w : FrameWord) (cfg : Cfg),
    (classify w = .std16 →
      (decodeOutputs v w cfg).parityOk = decide ((List.range 17).countP (fun i => w.getLsbD i) % 2 = 0) ∧
      (decodeOutputs v w cfg).parityOk =
        decide ((w.getLsbD 0).toNat = (List.range 16).countP (fun i => w.getLsbD (i + 1)) % 2)) ∧
    (classify w = .enh18 →
      (decodeOutputs v w cfg).parityOk = decide ((List.range 19).countP (fun i => w.getLsbD i) % 2 = 1) ∧
      (decodeOutputs v w cfg).parityOk =
        decide ((w.getLsbD 0).toNat = 1 - (List.range 18).countP (fun i => w.getLsbD (i + 1)) % 2))

/-- R70: the output gates after every step, and the data outputs whatever `fr_valid` is. -/
def Obligations.DecoderOutputsAreGated : Prop :=
  ∀ s t : State, step s = .next t →
    t.dec.valid = (t.regs.frValid && decide (classify t.regs.frData ≠ .unknown)) ∧
    t.dec.unknownHeader = (t.regs.frValid && decide (classify t.regs.frData = .unknown)) ∧
    (classify t.regs.frData = .std16 → t.dec.mode = false ∧
      t.dec.position = (t.regs.frData.extractLsb' 1 16).setWidth 18 ∧
      t.dec.parityOk = decide ((List.range 17).countP (fun i => t.regs.frData.getLsbD i) % 2 = 0)) ∧
    (classify t.regs.frData = .enh18 → t.dec.mode = true ∧ t.dec.position = t.regs.frData.extractLsb' 1 18 ∧
      t.dec.parityOk = decide ((List.range 19).countP (fun i => t.regs.frData.getLsbD i) % 2 = 1)) ∧
    (classify t.regs.frData = .unknown →
      t.dec.mode = false ∧ t.dec.position = 0#18 ∧ t.dec.parityOk = false ∧ t.dec.posFx = 0#20)

/-- R72: each RawFrame gives exactly one of a DecodedFrame and `UnknownFrameHeader`, in the same cycle. -/
def Obligations.EachRawFrameHasOneResult : Prop :=
  ∀ s t : State, step s = .next t → t.regs.frValid = true → t.dec.unknownHeader = !t.dec.valid

/-- R71, R85: a DecodedFrame with a parity mismatch is delivered, and no error wire rises. -/
def Obligations.ParityMismatchNeverSuppressesTheFrame : Prop :=
  ∀ s t : State, step s = .next t → classify t.regs.frData ≠ .unknown →
    t.dec.valid = t.regs.frValid ∧ (t.regs.frValid = true → t.dec.parityOk = false → t.err = 0#3)

/-- R33, R64: the decoder is pure. Running it again changes nothing, and its outputs depend only on `fr_valid`, `fr_data`
and the configuration. -/
def Obligations.DecodingIsPure : Prop :=
  (∀ s t : State, step s = .next t → exec (decodeFrame t.regs.frData) t = .next t) ∧
  (∀ s t s' t' : State, step s = .next t → step s' = .next t' → t.regs.frValid = t'.regs.frValid →
    t.regs.frData = t'.regs.frData → t.cfg = t'.cfg → t.dec = t'.dec)

/-! ## The sign-extend/scale unit -/

/-- R75: UNSIGNED, with the alignment of the cycle; only `cfg_sign_mode` and `dec_pos_fx` change, and the result is never
negative. -/
def Obligations.UnsignedModeGivesThePosition : Prop :=
  ∀ s : State, ∃ v : FixedPoint,
    exec .sxUnsigned s = .next
      { s with cfg := { s.cfg with signMode := .unsigned }, dec := { s.dec with posFx := v } } ∧
    v.getLsbD 19 = false ∧
    v = (if s.regs.frData.getLsbD 19 then BitVec.ofNat 20 (s.regs.frData.extractLsb' 1 18).toNat
      else if s.regs.frData.extractLsb' 17 3 = 0b001#3 then
        BitVec.ofNat 20 ((s.regs.frData.extractLsb' 1 16).toNat * (if s.cfg.align then 4 else 1))
      else 0#20)

/-- R76: OFFSET_BINARY, and its equality with TWOS_COMPLEMENT of the position with its most significant bit inverted. -/
def Obligations.OffsetModeSubtractsTheMidpoint : Prop :=
  (∀ s : State, ∃ v : FixedPoint,
    exec .sxOffset s = .next
      { s with cfg := { s.cfg with signMode := .offsetBinary }, dec := { s.dec with posFx := v } } ∧
    v = (if s.regs.frData.getLsbD 19 then BitVec.ofInt 20 (((s.regs.frData.extractLsb' 1 18).toNat : Int) - 131072)
      else if s.regs.frData.extractLsb' 17 3 = 0b001#3 then
        BitVec.ofInt 20 ((((s.regs.frData.extractLsb' 1 16).toNat : Int) - 32768) * (if s.cfg.align then 4 else 1))
      else 0#20)) ∧
  (∀ (w : FrameWord) (e : SyncEdge) (a : Bool),
    (classify w = .std16 → posFxOf w ⟨e, .offsetBinary, a⟩ = posFxOf (w ^^^ 0x10000#20) ⟨e, .twosComplement, a⟩) ∧
    (classify w = .enh18 → posFxOf w ⟨e, .offsetBinary, a⟩ = posFxOf (w ^^^ 0x40000#20) ⟨e, .twosComplement, a⟩))

/-- R77: TWOS_COMPLEMENT, the field read as a two's-complement value of its own width. -/
def Obligations.TwosModeSignExtends : Prop :=
  ∀ s : State, ∃ v : FixedPoint,
    exec .sxTwos s = .next
      { s with cfg := { s.cfg with signMode := .twosComplement }, dec := { s.dec with posFx := v } } ∧
    v = (if s.regs.frData.getLsbD 19 then (s.regs.frData.extractLsb' 1 18).signExtend 20
      else if s.regs.frData.extractLsb' 17 3 = 0b001#3 then
        BitVec.ofInt 20 ((s.regs.frData.extractLsb' 1 16).toInt * (if s.cfg.align then 4 else 1))
      else 0#20)

/-- R78: alignment is a left shift by two of a Standard16 frame's unaligned value, and leaves an Enhanced18 frame. -/
def Obligations.AlignmentMultipliesStandard16ByFour : Prop :=
  ∀ s : State, ∃ v : FixedPoint,
    v = posFxOf s.regs.frData ⟨s.cfg.syncEdge, s.cfg.signMode, false⟩ ∧
    exec .alignOff s = .next
      { s with cfg := { s.cfg with align := false }, dec := { s.dec with posFx := v } } ∧
    exec .alignOn s = .next
      { s with
        cfg := { s.cfg with align := true }
        dec := { s.dec with posFx := if classify s.regs.frData = .std16 then v <<< 2 else v } } ∧
    (classify s.regs.frData = .std16 → (v <<< 2).toInt = v.toInt * 4)

/-- R73: the unit writes no register and no other output, reads only the frame's class and position and the two inputs,
and is the identity on `dec_position` with UNSIGNED and no alignment. -/
def Obligations.ScaleUnitIsAPureAddedOutput : Prop :=
  (∀ i ∈ [Instr.sxUnsigned, .sxOffset, .sxTwos, .alignOff, .alignOn], ∀ s : State, ∃ t, exec i s = .next t ∧
    t.regs = s.regs ∧ t.dec.valid = s.dec.valid ∧ t.dec.mode = s.dec.mode ∧ t.dec.position = s.dec.position ∧
    t.dec.parityOk = s.dec.parityOk ∧ t.dec.unknownHeader = s.dec.unknownHeader ∧ t.err = s.err ∧
    t.dec.posFx = scale (classify s.regs.frData) (decPosition s.regs.frData) t.cfg.signMode t.cfg.align) ∧
  (∀ s t : State, step s = .next t → t.cfg.signMode = .unsigned → t.cfg.align = false →
    t.dec.posFx = t.dec.position.setWidth 20)

/-- R79: an UNKNOWN frame gives 0 in every mode, and otherwise the output is R74 of the held frame and the configuration. -/
def Obligations.UnknownFrameScalesToZero : Prop :=
  (∀ (w : FrameWord) (cfg : Cfg), classify w = .unknown → posFxOf w cfg = 0#20) ∧
  (∀ s t : State, step s = .next t →
    t.dec.posFx = scale (classify t.regs.frData) t.dec.position t.cfg.signMode t.cfg.align)

/-- R80: the unit never overflows, with the extreme values of each mode. -/
def Obligations.ScaleNeverOverflows : Prop :=
  (∀ (cls : FrameClass) (p : Position) (m : SignMode) (a : Bool),
    -131072 ≤ scaleValue cls p m a ∧ scaleValue cls p m a ≤ 262143 ∧
    (scale cls p m a).toInt = scaleValue cls p m a) ∧
  (∀ (p : Position) (m : SignMode) (a : Bool), m ≠ .unsigned →
    scaleValue .enh18 p m a ≤ 131071 ∧ scaleValue .std16 p m a ≤ 131068) ∧
  (∀ p : Position, scaleValue .std16 p .unsigned true ≤ 262140) ∧
  (∀ a : Bool, scaleValue .enh18 0x3FFFF#18 .unsigned a = 262143 ∧
    scaleValue .enh18 0#18 .offsetBinary a = -131072 ∧ scaleValue .enh18 0x20000#18 .twosComplement a = -131072 ∧
    scaleValue .enh18 0x3FFFF#18 .offsetBinary a = 131071 ∧ scaleValue .enh18 0x1FFFF#18 .twosComplement a = 131071) ∧
  scaleValue .std16 0xFFFF#18 .unsigned true = 262140 ∧
  scaleValue .std16 0#18 .offsetBinary true = -131072 ∧ scaleValue .std16 0x8000#18 .twosComplement true = -131072 ∧
  scaleValue .std16 0xFFFF#18 .offsetBinary true = 131068 ∧ scaleValue .std16 0x7FFF#18 .twosComplement true = 131068

/-- R102: a cycle's `cfg_sign_mode` and `cfg_align` change `dec_pos_fx` in that same cycle, for the frame already held, and
no other output. -/
def Obligations.CycleOutputsFollowTheCyclesConfiguration : Prop :=
  ∀ (s : State) (m : SignMode), s.ports.legalConfig = true → s.ports.cfgSignMode = SignMode.bits m →
    ∃ t : State, configure s.ports s = .next t ∧ s.cycleOutputs = some t.dec ∧ t.regs = s.regs ∧ t.err = s.err ∧
      t.dec = { s.dec with posFx := scale (classify s.regs.frData) (decPosition s.regs.frData) m s.ports.cfgAlign }

/-! ## The edge detector and the reserved configurations -/

/-- R49, R50: each EDGE row selects its edge function and changes nothing else; a sample in HUNT starts a frame exactly at
the edges that R49 gives, the first sample of a stream included. The reserved value is refused. -/
def Obligations.EdgeRowsSelectTheEdgeFunction : Prop :=
  ∀ (s : State) (sync data : Bool) (ts : Timestamp),
    exec .edgeRising s = .next { s with cfg := { s.cfg with syncEdge := .rising } } ∧
    exec .edgeFalling s = .next { s with cfg := { s.cfg with syncEdge := .falling } } ∧
    exec .edgeBoth s = .next { s with cfg := { s.cfg with syncEdge := .both } } ∧
    exec .edgeRsvd s = .refused .reservedSyncEdge ∧
    startEdge s.regs.prevValid s.regs.prevSync sync .rising =
      (if s.regs.prevValid then decide (s.regs.prevSync = false ∧ sync = true) else decide (sync = true)) ∧
    startEdge s.regs.prevValid s.regs.prevSync sync .falling =
      (if s.regs.prevValid then decide (s.regs.prevSync = true ∧ sync = false) else decide (sync = false)) ∧
    startEdge s.regs.prevValid s.regs.prevSync sync .both =
      (if s.regs.prevValid then decide (s.regs.prevSync ≠ sync) else true) ∧
    (s.regs.cnt = 0#5 →
      (∃ t, exec (.sample sync data ts) { s with cfg := { s.cfg with syncEdge := .rising } } = .next t ∧
        t.regs.cnt = if (if s.regs.prevValid then !s.regs.prevSync && sync else sync) then 1#5 else 0#5) ∧
      (∃ t, exec (.sample sync data ts) { s with cfg := { s.cfg with syncEdge := .falling } } = .next t ∧
        t.regs.cnt = if (if s.regs.prevValid then s.regs.prevSync && !sync else !sync) then 1#5 else 0#5) ∧
      (∃ t, exec (.sample sync data ts) { s with cfg := { s.cfg with syncEdge := .both } } = .next t ∧
        t.regs.cnt = if (if s.regs.prevValid then s.regs.prevSync != sync else true) then 1#5 else 0#5))

/-- R47: a reserved configuration is refused by its row, and no cycle runs under one. That a RESET cycle is refused too, and
which of two reserved fields is named, are the MODEL'S CHOICE (log 8). -/
def Obligations.ReservedConfigurationIsRefused : Prop :=
  (∀ s : State, exec .edgeRsvd s = .refused .reservedSyncEdge ∧ exec .sxRsvd s = .refused .reservedSignMode) ∧
  (∀ s : State, s.ports.cfgSyncEdge = 0b11#2 → step s = .refused .reservedSyncEdge) ∧
  (∀ s : State, s.ports.cfgSyncEdge ≠ 0b11#2 → s.ports.cfgSignMode = 0b11#2 → step s = .refused .reservedSignMode)

/-! ## The SAMPLE forms -/

/-- R55: HUNT_SKIP. -/
def Obligations.HuntSkipDiscardsTheSample : Prop :=
  ∀ (s : State) (inEos sync data : Bool) (ts : Timestamp), s.regs.cnt = 0#5 → s.isEdge sync = false →
    exec (.huntSkip inEos sync data ts) s = .next (s.afterEdge (Regs.endStreamIf inEos
      { s.regs with frValid := false, errTrunc := false, errResync := false, prevValid := true, prevSync := sync }))

/-- R56: START. -/
def Obligations.StartBeginsAFrame : Prop :=
  ∀ (s : State) (inEos sync data : Bool) (ts : Timestamp), s.regs.cnt = 0#5 → s.isEdge sync = true →
    exec (.start inEos sync data ts) s = .next (s.afterEdge (Regs.endStreamIf inEos
      { s.regs with
        frValid := false, errTrunc := false, errResync := false, prevValid := true, prevSync := sync
        accData := (BitVec.ofBool data).setWidth 19
        accSync := (BitVec.ofBool sync).setWidth 19
        tsStart := ts
        cnt     := 1#5 }))

/-- R57: ACCUM. -/
def Obligations.AccumShiftsTheBitsIn : Prop :=
  ∀ (s : State) (inEos sync data : Bool) (ts : Timestamp),
    1#5 ≤ s.regs.cnt → s.regs.cnt ≤ 18#5 → s.isEdge sync = false →
    exec (.accum inEos sync data ts) s = .next (s.afterEdge (Regs.endStreamIf inEos
      { s.regs with
        frValid := false, errTrunc := false, errResync := false, prevValid := true, prevSync := sync
        accData := s.regs.accData.extractLsb' 0 18 ++ BitVec.ofBool data
        accSync := s.regs.accSync.extractLsb' 0 18 ++ BitVec.ofBool sync
        cnt     := BitVec.ofNat 5 (s.regs.cnt.toNat + 1) }))

/-- R58: COMPLETE, and it is the only way the RawFrame registers change apart from reset. -/
def Obligations.CompleteDeliversTheRawFrame : Prop :=
  (∀ (s : State) (inEos sync data : Bool) (ts : Timestamp), s.regs.cnt = 19#5 → s.isEdge sync = false →
    exec (.complete inEos sync data ts) s = .next (s.afterEdge (Regs.endStreamIf inEos
      { s.regs with
        errTrunc := false, errResync := false, prevValid := true, prevSync := sync
        frData    := s.regs.accData ++ BitVec.ofBool data
        frSync    := s.regs.accSync ++ BitVec.ofBool sync
        frTsStart := s.regs.tsStart
        frTsEnd   := ts
        frValid   := true
        cnt       := 0#5 }))) ∧
  (∀ s t : State, step s = .next t → s.ports.rst = false →
    (s.regs.cnt ≠ 19#5 ∨ s.ports.inValid = false ∨
      startEdge s.regs.prevValid s.regs.prevSync s.ports.inSync t.cfg.syncEdge = true) →
    t.regs.frValid = false ∧ t.regs.frData = s.regs.frData ∧ t.regs.frSync = s.regs.frSync ∧
    t.regs.frTsStart = s.regs.frTsStart ∧ t.regs.frTsEnd = s.regs.frTsEnd)

/-- R59: RESYNC, the edge on what would have been the 20th bit included. -/
def Obligations.ResyncRestartsTheFrame : Prop :=
  ∀ (s : State) (inEos sync data : Bool) (ts : Timestamp),
    1#5 ≤ s.regs.cnt → s.regs.cnt ≤ 19#5 → s.isEdge sync = true →
    exec (.resync inEos sync data ts) s = .next (s.afterEdge (Regs.endStreamIf inEos
      { s.regs with
        frValid := false, errTrunc := false, errResync := true, prevValid := true, prevSync := sync
        accData := (BitVec.ofBool data).setWidth 19
        accSync := (BitVec.ofBool sync).setWidth 19
        tsStart := ts
        cnt     := 1#5 }))

/-- A form row in a state that selects another form is refused: the MODEL'S CHOICE (log 6), since R45 gives a form no
encoding in such a state. -/
def Obligations.UnselectedFormIsRefused : Prop :=
  ∀ (s : State) (f : SampleForm) (inEos sync data : Bool) (ts : Timestamp),
    s.regs.cnt ≤ 19#5 → s.form sync ≠ some f →
    exec (f.instr inEos sync data ts) s = .refused .formNotSelected

/-- A sample with `cnt` in 20..31 faults: the MODEL'S CHOICE (log 7), which 93_implementation_defined.md U10 allows. -/
def Obligations.SampleBeyondNineteenFaults : Prop :=
  ∀ (s : State) (sync data : Bool) (ts : Timestamp), 19#5 < s.regs.cnt →
    exec (.sample sync data ts) s = .fault .cntOutOfRange ∧ exec (.sampleEos sync data ts) s = .fault .cntOutOfRange

/-! ## The control words -/

/-- R53: IDLE clears the pulses, with `dec_valid` and `err[2]` as a consequence, and changes nothing else. -/
def Obligations.IdleOnlyClearsThePulses : Prop :=
  ∀ s : State, ∃ d : DecOut,
    exec .idle s = .next
      { s with regs := { s.regs with frValid := false, errTrunc := false, errResync := false }, dec := d } ∧
    d.valid = false ∧ d.unknownHeader = false ∧ (s.Settled → d =
      { s.dec with valid := false, unknownHeader := false })

/-- R54: SAMPLE takes exactly one of the five forms, notes the sample, and signals `ResyncDetected` in RESYNC alone. -/
def Obligations.SampleTakesExactlyOneForm : Prop :=
  ∀ (s : State) (sync data : Bool) (ts : Timestamp), s.regs.cnt ≤ 19#5 →
    ∃ (f : SampleForm) (t : State),
      exec (.sample sync data ts) s = .next t ∧ exec (f.instr false sync data ts) s = .next t ∧
      t.regs.prevValid = true ∧ t.regs.prevSync = sync ∧
      t.regs.errResync = decide (f = .resync) ∧ t.regs.errTrunc = false ∧ t.regs.frValid = decide (f = .complete) ∧
      (f = .huntSkip ↔ s.regs.cnt = 0#5 ∧ s.isEdge sync = false) ∧
      (f = .start ↔ s.regs.cnt = 0#5 ∧ s.isEdge sync = true) ∧
      (f = .accum ↔ 1#5 ≤ s.regs.cnt ∧ s.regs.cnt ≤ 18#5 ∧ s.isEdge sync = false) ∧
      (f = .complete ↔ s.regs.cnt = 19#5 ∧ s.isEdge sync = false) ∧
      (f = .resync ↔ 1#5 ≤ s.regs.cnt ∧ s.regs.cnt ≤ 19#5 ∧ s.isEdge sync = true)

/-- R60: EOS. -/
def Obligations.EosEndsTheStream : Prop :=
  ∀ s : State, exec .eos s = .next (s.afterEdge
    { s.regs with
      frValid := false, errResync := false
      errTrunc  := decide (s.regs.cnt ≠ 0#5)
      cnt       := 0#5
      prevValid := false
      prevSync  := false })

/-- R61: SAMPLE_EOS is the sample's form and then END_OF_STREAM on its result. -/
def Obligations.SampleEosEndsTheStreamAfterItsSample : Prop :=
  ∀ (s : State) (sync data : Bool) (ts : Timestamp), s.regs.cnt ≤ 19#5 →
    ∃ t : State, exec (.sample sync data ts) s = .next t ∧
      exec (.sampleEos sync data ts) s = .next
        { t with regs :=
          { t.regs with
            errTrunc  := decide (t.regs.cnt ≠ 0#5)
            cnt       := 0#5
            prevValid := false
            prevSync  := false } }

/-- R95, R87: RESET writes every register and dominates every other input; the configuration is not reset. -/
def Obligations.ResetClearsEveryRegister : Prop :=
  (∀ (s : State) (inEos inValid : Bool), exec (.reset inEos inValid) s = .next
    { s with
      regs :=
        { cnt := 0#5, prevValid := false, prevSync := false, accData := 0#19, accSync := 0#19, tsStart := 0
          frValid := false, frData := 0#20, frSync := 0#20, frTsStart := 0, frTsEnd := 0
          errTrunc := false, errResync := false }
      dec :=
        { valid := false, mode := false, position := 0#18, parityOk := false, posFx := 0#20
          unknownHeader := false } }) ∧
  (∀ s : State, s.ports.legalConfig = true → s.ports.rst = true →
    ∃ t, step s = .next t ∧ t.regs = Regs.reset ∧ t.dec = DecOut.reset ∧ t.err = 0#3)

/-! ## Reset, the step and the invariant -/

/-- R25: the registers and the combinational outputs after reset. -/
def Obligations.ResetStateHoldsTheTable : Prop :=
  State.reset.regs =
    { cnt := 0#5, prevValid := false, prevSync := false, accData := 0#19, accSync := 0#19, tsStart := 0
      frValid := false, frData := 0#20, frSync := 0#20, frTsStart := 0, frTsEnd := 0
      errTrunc := false, errResync := false } ∧
  State.reset.dec =
    { valid := false, mode := false, position := 0#18, parityOk := false, posFx := 0#20, unknownHeader := false } ∧
  State.reset.Settled

/-- A step runs the instructions decoded from the cycle's ports: the configuration rows on the state with the cycle's
ports taken, then the control row; the decoder's row of the resulting `fr_data` leaves the result. It stops where the
control row stops. The order of the three configuration rows, before the clock edge, is the MODEL'S CHOICE (log 5). -/
def Obligations.StepRunsTheDecodedInstructions : Prop :=
  ∀ (s : State) (i e m a : Instr),
    decode (.control (controlWord s.ports) s.ports.inSync s.ports.inData s.ports.inTs) = .ok i →
    decode (.cfgSyncEdge s.ports.cfgSyncEdge) = .ok e → e.wellFormed = true →
    decode (.cfgSignMode s.ports.cfgSignMode) = .ok m → m.wellFormed = true →
    decode (.cfgAlign (BitVec.ofBool s.ports.cfgAlign)) = .ok a →
    ∃ s₁ s₂ s₃ : State,
      exec e { s with inputs := s.inputs.tail, clock := s.clock + 1 } = .next s₁ ∧
      exec m s₁ = .next s₂ ∧ exec a s₂ = .next s₃ ∧ s₃.regs = s.regs ∧
      step s = exec i s₃ ∧
      (∀ t, exec i s₃ = .next t → exec (decodeFrame t.regs.frData) t = .next t)

/-- R52: the step function on the registers, its statements in the rule's order, under the edge convention of the cycle's own
`cfg_sync_edge` (R101). -/
def Obligations.StepFollowsTheStepFunction : Prop :=
  ∀ (s : State) (sel : SyncEdge),
    s.ports.legalConfig = true → s.ports.cfgSyncEdge = SyncEdge.bits sel → s.regs.cnt ≤ 19#5 →
    ∃ t : State, step s = .next t ∧ t.cfg.syncEdge = sel ∧ t.regs =
      let p := s.ports
      let e := startEdge s.regs.prevValid s.regs.prevSync p.inSync sel
      let r₀ := { s.regs with frValid := false, errTrunc := false, errResync := false }
      let r₁ :=
        if s.regs.cnt = 0#5 ∧ e = false then r₀
        else if s.regs.cnt = 0#5 ∧ e = true then r₀.beginFrame p.inSync p.inData p.inTs
        else if e = true then { r₀.beginFrame p.inSync p.inData p.inTs with errResync := true }
        else if s.regs.cnt = 19#5 then r₀.completeFrame p.inSync p.inData p.inTs
        else r₀.accumulate p.inSync p.inData
      let r₂ := if p.inValid then { r₁ with prevValid := true, prevSync := p.inSync } else r₀
      let r₃ := { r₂ with
        errTrunc := if r₂.cnt ≠ 0#5 then true else r₂.errTrunc, cnt := 0#5, prevValid := false, prevSync := false }
      if p.rst then Regs.reset else if p.inEos then r₃ else r₂

/-- The invariant holds at reset. -/
def Obligations.ResetSatisfiesTheInvariant : Prop := State.reset.Inv

/-- The invariant is kept by every step: `cnt` stays in 0..19 (R16), the buffer's high bits are zero in FILL (R18), a frame
and an error of the assembler never come from one step (R86), and the outputs follow the registers (R22). -/
def Obligations.StepKeepsTheInvariant : Prop :=
  ∀ s t : State, s.Inv → step s = .next t → t.Inv

/-- A cycle with a legal configuration always runs, from every state with `cnt` in 0..19. -/
def Obligations.LegalCyclesAlwaysRun : Prop :=
  ∀ s : State, s.regs.cnt ≤ 19#5 → s.ports.legalConfig = true → ∃ t, step s = .next t

/-- R86: which events share one output cycle. -/
def Obligations.SimultaneousEventsAreRestricted : Prop :=
  ∀ s t : State, step s = .next t →
    (t.dec.unknownHeader = true → t.dec.valid = false) ∧
    (t.regs.errTrunc = true → t.regs.frValid = false ∧ t.dec.unknownHeader = false) ∧
    (t.regs.errResync = true → t.regs.frValid = false ∧ t.dec.unknownHeader = false) ∧
    (t.regs.errTrunc = true → t.regs.errResync = true →
      s.ports.inEos = true ∧ s.ports.inValid = true ∧ 1#5 ≤ s.regs.cnt ∧ s.regs.cnt ≤ 19#5)

/-- R11: the sample's ports have no effect in a cycle with `in_valid = 0`. -/
def Obligations.SamplePortsAreIgnoredWithoutValid : Prop :=
  ∀ (s : State) (p : Ports) (rest : List Ports) (sync data : Bool) (ts : Timestamp), p.inValid = false →
    step { s with inputs := { p with inSync := sync, inData := data, inTs := ts } :: rest } =
      step { s with inputs := p :: rest }

/-! ## Runs -/

/-- R103: IDLE cycles, in any number, have no effect on framing. -/
def Obligations.IdleCyclesNeverAffectFraming : Prop :=
  ∀ (k : Nat) (s : State) (cfg : Cfg) (rest : List Ports), s.inputs = List.replicate k (idlePorts cfg) ++ rest →
    ∃ ts, trace k s = some ts ∧ ∀ t ∈ ts,
      t.regs = { s.regs with frValid := false, errTrunc := false, errResync := false }

/-- R62: N frames back to back give exactly N RawFrames, in order, each with its 20 data bits, its SYNC bits and its first
and last timestamps, no `ResyncDetected`, and no `TruncatedFrame` where the stream ends after the last frame. -/
def Obligations.BackToBackFramesRoundTrip : Prop :=
  ∀ (cfg : Cfg) (frames : List (List Sample)) (s : State),
    (∀ f ∈ frames, f.length = 20) → s.regs.cnt = 0#5 →
    edgesOf cfg.syncEdge s.regs.prevValid s.regs.prevSync frames.flatten = cadence frames.length →
    s.inputs = frames.flatten.map (Sample.ports cfg) ++ [eosPorts cfg] →
    ∃ ts, trace (20 * frames.length + 1) s = some ts ∧
      List.Forall₂ (fun t f => Regs.HoldsFrame t.regs f) (ts.filter fun t => t.regs.frValid) frames ∧
      ∀ t ∈ ts, t.regs.errResync = false ∧ t.regs.errTrunc = false

/-- R92, its sentence on a missing SYNC edge: samples without one leave the block in HUNT, however many there are. -/
def Obligations.NoEdgeKeepsTheBlockInHunt : Prop :=
  ∀ (cfg : Cfg) (xs : List Sample) (s : State), s.regs.cnt = 0#5 →
    edgesOf cfg.syncEdge s.regs.prevValid s.regs.prevSync xs = List.replicate xs.length false →
    s.inputs = xs.map (Sample.ports cfg) →
    ∃ ts, trace xs.length s = some ts ∧
      ∀ t ∈ ts, t.regs.cnt = 0#5 ∧ t.regs.frValid = false ∧ t.regs.frData = s.regs.frData ∧ t.err = 0#3

/-- R82: a stream that ends `n` samples into its frame, with `n` in 1..19, gives no RawFrame and one `TruncatedFrame`, in the
cycle after the stream's end. -/
def Obligations.TruncatedStreamSignalsOnce : Prop :=
  ∀ (cfg : Cfg) (xs : List Sample) (s : State), 1 ≤ xs.length → xs.length ≤ 19 → s.regs.cnt = 0#5 →
    edgesOf cfg.syncEdge s.regs.prevValid s.regs.prevSync xs = true :: List.replicate (xs.length - 1) false →
    s.inputs = xs.map (Sample.ports cfg) ++ [eosPorts cfg] →
    ∃ ts, trace (xs.length + 1) s = some ts ∧
      (∀ t ∈ ts, t.regs.frValid = false ∧ t.regs.errResync = false) ∧
      ts.map (fun t => t.regs.errTrunc) = List.replicate xs.length false ++ [true]

/-- R83: an edge `n` samples into a frame, with `n` in 1..19, discards those samples with one `ResyncDetected`, and the 20
samples from that edge are delivered. -/
def Obligations.ResyncDeliversTheNewFrame : Prop :=
  ∀ (cfg : Cfg) (xs f : List Sample) (s : State), 1 ≤ xs.length → xs.length ≤ 19 → f.length = 20 →
    s.regs.cnt = 0#5 →
    edgesOf cfg.syncEdge s.regs.prevValid s.regs.prevSync (xs ++ f) =
      true :: List.replicate (xs.length - 1) false ++ (true :: List.replicate 19 false) →
    s.inputs = (xs ++ f).map (Sample.ports cfg) →
    ∃ ts, trace (xs.length + 20) s = some ts ∧
      ts.map (fun t => t.regs.errResync) = List.replicate xs.length false ++ true :: List.replicate 19 false ∧
      List.Forall₂ (fun t g => Regs.HoldsFrame t.regs g) (ts.filter fun t => t.regs.frValid) [f] ∧
      ∀ t ∈ ts, t.regs.errTrunc = false

/-- R99: the RawFrame registers hold a frame for 20 cycles from its pulse, and the pulse lasts one cycle. -/
def Obligations.RawFrameIsStableForTwentyCycles : Prop :=
  ∀ (k : Nat) (s : State) (ts : List State), k ≤ 19 → s.regs.frValid = true → s.regs.cnt = 0#5 →
    k ≤ s.inputs.length → (∀ p ∈ s.inputs.take k, p.rst = false) → trace k s = some ts →
    ∀ t ∈ ts, t.regs.frValid = false ∧ t.regs.frData = s.regs.frData ∧ t.regs.frSync = s.regs.frSync ∧
      t.regs.frTsStart = s.regs.frTsStart ∧ t.regs.frTsEnd = s.regs.frTsEnd

/-- R102: the scale unit's inputs reach no register, no error and no other output, in any step. -/
def Obligations.ScaleInputsReachOnlyTheScaledPosition : Prop :=
  ∀ s t : State, State.SameButScale s t → sameOutcome State.SameButScale (step s) (step t)

/-- R63: no timestamp decides anything: runs that differ only in timestamps go on alike. -/
def Obligations.TimestampsNeverDecide : Prop :=
  ∀ s t : State, State.SameButTimestamps s t → sameOutcome State.SameButTimestamps (step s) (step t)

/-- The MODEL'S presentation of a frame word (log 9): the very next step holds and decodes it. -/
def Obligations.PresentedFrameWordIsDecoded : Prop :=
  ∀ (s : State) (w : Nat), w < 2 ^ 20 → ∃ (i : Instr) (t : State),
    decodeTableWord 24 w = some i ∧ step (s.withFetchWord 24 w) = .next t ∧
    t.regs.frData = BitVec.ofNat 20 w ∧ t.regs.frValid = true ∧ exec i t = .next t
end

