-- ==== Sys2Proof/Laws/State.lean ====
section
/-! SUPPORT. One lemma per field per update of the registers and of the state. -/

namespace Sys2Proof.Machine

/-! ### Regs.clearPulses -/

@[simp] theorem Regs.clearPulses_cnt (r : Regs) : (r.clearPulses).cnt = r.cnt := rfl
@[simp] theorem Regs.clearPulses_prevValid (r : Regs) : (r.clearPulses).prevValid = r.prevValid := rfl
@[simp] theorem Regs.clearPulses_prevSync (r : Regs) : (r.clearPulses).prevSync = r.prevSync := rfl
@[simp] theorem Regs.clearPulses_accData (r : Regs) : (r.clearPulses).accData = r.accData := rfl
@[simp] theorem Regs.clearPulses_accSync (r : Regs) : (r.clearPulses).accSync = r.accSync := rfl
@[simp] theorem Regs.clearPulses_tsStart (r : Regs) : (r.clearPulses).tsStart = r.tsStart := rfl
@[simp] theorem Regs.clearPulses_frValid (r : Regs) : (r.clearPulses).frValid = false := rfl
@[simp] theorem Regs.clearPulses_frData (r : Regs) : (r.clearPulses).frData = r.frData := rfl
@[simp] theorem Regs.clearPulses_frSync (r : Regs) : (r.clearPulses).frSync = r.frSync := rfl
@[simp] theorem Regs.clearPulses_frTsStart (r : Regs) : (r.clearPulses).frTsStart = r.frTsStart := rfl
@[simp] theorem Regs.clearPulses_frTsEnd (r : Regs) : (r.clearPulses).frTsEnd = r.frTsEnd := rfl
@[simp] theorem Regs.clearPulses_errTrunc (r : Regs) : (r.clearPulses).errTrunc = false := rfl
@[simp] theorem Regs.clearPulses_errResync (r : Regs) : (r.clearPulses).errResync = false := rfl

/-! ### Regs.beginFrame -/

@[simp] theorem Regs.beginFrame_cnt (r : Regs) (sync data : Bool) (ts : Timestamp) : (r.beginFrame sync data ts).cnt = 1#5 := rfl
@[simp] theorem Regs.beginFrame_prevValid (r : Regs) (sync data : Bool) (ts : Timestamp) : (r.beginFrame sync data ts).prevValid = r.prevValid := rfl
@[simp] theorem Regs.beginFrame_prevSync (r : Regs) (sync data : Bool) (ts : Timestamp) : (r.beginFrame sync data ts).prevSync = r.prevSync := rfl
@[simp] theorem Regs.beginFrame_accData (r : Regs) (sync data : Bool) (ts : Timestamp) : (r.beginFrame sync data ts).accData = (BitVec.ofBool data).setWidth 19 := rfl
@[simp] theorem Regs.beginFrame_accSync (r : Regs) (sync data : Bool) (ts : Timestamp) : (r.beginFrame sync data ts).accSync = (BitVec.ofBool sync).setWidth 19 := rfl
@[simp] theorem Regs.beginFrame_tsStart (r : Regs) (sync data : Bool) (ts : Timestamp) : (r.beginFrame sync data ts).tsStart = ts := rfl
@[simp] theorem Regs.beginFrame_frValid (r : Regs) (sync data : Bool) (ts : Timestamp) : (r.beginFrame sync data ts).frValid = r.frValid := rfl
@[simp] theorem Regs.beginFrame_frData (r : Regs) (sync data : Bool) (ts : Timestamp) : (r.beginFrame sync data ts).frData = r.frData := rfl
@[simp] theorem Regs.beginFrame_frSync (r : Regs) (sync data : Bool) (ts : Timestamp) : (r.beginFrame sync data ts).frSync = r.frSync := rfl
@[simp] theorem Regs.beginFrame_frTsStart (r : Regs) (sync data : Bool) (ts : Timestamp) : (r.beginFrame sync data ts).frTsStart = r.frTsStart := rfl
@[simp] theorem Regs.beginFrame_frTsEnd (r : Regs) (sync data : Bool) (ts : Timestamp) : (r.beginFrame sync data ts).frTsEnd = r.frTsEnd := rfl
@[simp] theorem Regs.beginFrame_errTrunc (r : Regs) (sync data : Bool) (ts : Timestamp) : (r.beginFrame sync data ts).errTrunc = r.errTrunc := rfl
@[simp] theorem Regs.beginFrame_errResync (r : Regs) (sync data : Bool) (ts : Timestamp) : (r.beginFrame sync data ts).errResync = r.errResync := rfl

/-! ### Regs.signalResync -/

@[simp] theorem Regs.signalResync_cnt (r : Regs) : (r.signalResync).cnt = r.cnt := rfl
@[simp] theorem Regs.signalResync_prevValid (r : Regs) : (r.signalResync).prevValid = r.prevValid := rfl
@[simp] theorem Regs.signalResync_prevSync (r : Regs) : (r.signalResync).prevSync = r.prevSync := rfl
@[simp] theorem Regs.signalResync_accData (r : Regs) : (r.signalResync).accData = r.accData := rfl
@[simp] theorem Regs.signalResync_accSync (r : Regs) : (r.signalResync).accSync = r.accSync := rfl
@[simp] theorem Regs.signalResync_tsStart (r : Regs) : (r.signalResync).tsStart = r.tsStart := rfl
@[simp] theorem Regs.signalResync_frValid (r : Regs) : (r.signalResync).frValid = r.frValid := rfl
@[simp] theorem Regs.signalResync_frData (r : Regs) : (r.signalResync).frData = r.frData := rfl
@[simp] theorem Regs.signalResync_frSync (r : Regs) : (r.signalResync).frSync = r.frSync := rfl
@[simp] theorem Regs.signalResync_frTsStart (r : Regs) : (r.signalResync).frTsStart = r.frTsStart := rfl
@[simp] theorem Regs.signalResync_frTsEnd (r : Regs) : (r.signalResync).frTsEnd = r.frTsEnd := rfl
@[simp] theorem Regs.signalResync_errTrunc (r : Regs) : (r.signalResync).errTrunc = r.errTrunc := rfl
@[simp] theorem Regs.signalResync_errResync (r : Regs) : (r.signalResync).errResync = true := rfl

/-! ### Regs.accumulate -/

@[simp] theorem Regs.accumulate_cnt (r : Regs) (sync data : Bool) : (r.accumulate sync data).cnt = r.cnt + 1#5 := rfl
@[simp] theorem Regs.accumulate_prevValid (r : Regs) (sync data : Bool) : (r.accumulate sync data).prevValid = r.prevValid := rfl
@[simp] theorem Regs.accumulate_prevSync (r : Regs) (sync data : Bool) : (r.accumulate sync data).prevSync = r.prevSync := rfl
@[simp] theorem Regs.accumulate_accData (r : Regs) (sync data : Bool) : (r.accumulate sync data).accData = shiftIn r.accData data := rfl
@[simp] theorem Regs.accumulate_accSync (r : Regs) (sync data : Bool) : (r.accumulate sync data).accSync = shiftIn r.accSync sync := rfl
@[simp] theorem Regs.accumulate_tsStart (r : Regs) (sync data : Bool) : (r.accumulate sync data).tsStart = r.tsStart := rfl
@[simp] theorem Regs.accumulate_frValid (r : Regs) (sync data : Bool) : (r.accumulate sync data).frValid = r.frValid := rfl
@[simp] theorem Regs.accumulate_frData (r : Regs) (sync data : Bool) : (r.accumulate sync data).frData = r.frData := rfl
@[simp] theorem Regs.accumulate_frSync (r : Regs) (sync data : Bool) : (r.accumulate sync data).frSync = r.frSync := rfl
@[simp] theorem Regs.accumulate_frTsStart (r : Regs) (sync data : Bool) : (r.accumulate sync data).frTsStart = r.frTsStart := rfl
@[simp] theorem Regs.accumulate_frTsEnd (r : Regs) (sync data : Bool) : (r.accumulate sync data).frTsEnd = r.frTsEnd := rfl
@[simp] theorem Regs.accumulate_errTrunc (r : Regs) (sync data : Bool) : (r.accumulate sync data).errTrunc = r.errTrunc := rfl
@[simp] theorem Regs.accumulate_errResync (r : Regs) (sync data : Bool) : (r.accumulate sync data).errResync = r.errResync := rfl

/-! ### Regs.completeFrame -/

@[simp] theorem Regs.completeFrame_cnt (r : Regs) (sync data : Bool) (ts : Timestamp) : (r.completeFrame sync data ts).cnt = 0#5 := rfl
@[simp] theorem Regs.completeFrame_prevValid (r : Regs) (sync data : Bool) (ts : Timestamp) : (r.completeFrame sync data ts).prevValid = r.prevValid := rfl
@[simp] theorem Regs.completeFrame_prevSync (r : Regs) (sync data : Bool) (ts : Timestamp) : (r.completeFrame sync data ts).prevSync = r.prevSync := rfl
@[simp] theorem Regs.completeFrame_accData (r : Regs) (sync data : Bool) (ts : Timestamp) : (r.completeFrame sync data ts).accData = r.accData := rfl
@[simp] theorem Regs.completeFrame_accSync (r : Regs) (sync data : Bool) (ts : Timestamp) : (r.completeFrame sync data ts).accSync = r.accSync := rfl
@[simp] theorem Regs.completeFrame_tsStart (r : Regs) (sync data : Bool) (ts : Timestamp) : (r.completeFrame sync data ts).tsStart = r.tsStart := rfl
@[simp] theorem Regs.completeFrame_frValid (r : Regs) (sync data : Bool) (ts : Timestamp) : (r.completeFrame sync data ts).frValid = true := rfl
@[simp] theorem Regs.completeFrame_frData (r : Regs) (sync data : Bool) (ts : Timestamp) : (r.completeFrame sync data ts).frData = r.accData ++ BitVec.ofBool data := rfl
@[simp] theorem Regs.completeFrame_frSync (r : Regs) (sync data : Bool) (ts : Timestamp) : (r.completeFrame sync data ts).frSync = r.accSync ++ BitVec.ofBool sync := rfl
@[simp] theorem Regs.completeFrame_frTsStart (r : Regs) (sync data : Bool) (ts : Timestamp) : (r.completeFrame sync data ts).frTsStart = r.tsStart := rfl
@[simp] theorem Regs.completeFrame_frTsEnd (r : Regs) (sync data : Bool) (ts : Timestamp) : (r.completeFrame sync data ts).frTsEnd = ts := rfl
@[simp] theorem Regs.completeFrame_errTrunc (r : Regs) (sync data : Bool) (ts : Timestamp) : (r.completeFrame sync data ts).errTrunc = r.errTrunc := rfl
@[simp] theorem Regs.completeFrame_errResync (r : Regs) (sync data : Bool) (ts : Timestamp) : (r.completeFrame sync data ts).errResync = r.errResync := rfl

/-! ### Regs.notePrevious -/

@[simp] theorem Regs.notePrevious_cnt (r : Regs) (sync : Bool) : (r.notePrevious sync).cnt = r.cnt := rfl
@[simp] theorem Regs.notePrevious_prevValid (r : Regs) (sync : Bool) : (r.notePrevious sync).prevValid = true := rfl
@[simp] theorem Regs.notePrevious_prevSync (r : Regs) (sync : Bool) : (r.notePrevious sync).prevSync = sync := rfl
@[simp] theorem Regs.notePrevious_accData (r : Regs) (sync : Bool) : (r.notePrevious sync).accData = r.accData := rfl
@[simp] theorem Regs.notePrevious_accSync (r : Regs) (sync : Bool) : (r.notePrevious sync).accSync = r.accSync := rfl
@[simp] theorem Regs.notePrevious_tsStart (r : Regs) (sync : Bool) : (r.notePrevious sync).tsStart = r.tsStart := rfl
@[simp] theorem Regs.notePrevious_frValid (r : Regs) (sync : Bool) : (r.notePrevious sync).frValid = r.frValid := rfl
@[simp] theorem Regs.notePrevious_frData (r : Regs) (sync : Bool) : (r.notePrevious sync).frData = r.frData := rfl
@[simp] theorem Regs.notePrevious_frSync (r : Regs) (sync : Bool) : (r.notePrevious sync).frSync = r.frSync := rfl
@[simp] theorem Regs.notePrevious_frTsStart (r : Regs) (sync : Bool) : (r.notePrevious sync).frTsStart = r.frTsStart := rfl
@[simp] theorem Regs.notePrevious_frTsEnd (r : Regs) (sync : Bool) : (r.notePrevious sync).frTsEnd = r.frTsEnd := rfl
@[simp] theorem Regs.notePrevious_errTrunc (r : Regs) (sync : Bool) : (r.notePrevious sync).errTrunc = r.errTrunc := rfl
@[simp] theorem Regs.notePrevious_errResync (r : Regs) (sync : Bool) : (r.notePrevious sync).errResync = r.errResync := rfl

/-! ### Regs.endOfStream -/

@[simp] theorem Regs.endOfStream_cnt (r : Regs) : (r.endOfStream).cnt = 0#5 := rfl
@[simp] theorem Regs.endOfStream_prevValid (r : Regs) : (r.endOfStream).prevValid = false := rfl
@[simp] theorem Regs.endOfStream_prevSync (r : Regs) : (r.endOfStream).prevSync = false := rfl
@[simp] theorem Regs.endOfStream_accData (r : Regs) : (r.endOfStream).accData = r.accData := rfl
@[simp] theorem Regs.endOfStream_accSync (r : Regs) : (r.endOfStream).accSync = r.accSync := rfl
@[simp] theorem Regs.endOfStream_tsStart (r : Regs) : (r.endOfStream).tsStart = r.tsStart := rfl
@[simp] theorem Regs.endOfStream_frValid (r : Regs) : (r.endOfStream).frValid = r.frValid := rfl
@[simp] theorem Regs.endOfStream_frData (r : Regs) : (r.endOfStream).frData = r.frData := rfl
@[simp] theorem Regs.endOfStream_frSync (r : Regs) : (r.endOfStream).frSync = r.frSync := rfl
@[simp] theorem Regs.endOfStream_frTsStart (r : Regs) : (r.endOfStream).frTsStart = r.frTsStart := rfl
@[simp] theorem Regs.endOfStream_frTsEnd (r : Regs) : (r.endOfStream).frTsEnd = r.frTsEnd := rfl
@[simp] theorem Regs.endOfStream_errTrunc (r : Regs) : (r.endOfStream).errTrunc = if r.cnt = 0#5 then r.errTrunc else true := rfl
@[simp] theorem Regs.endOfStream_errResync (r : Regs) : (r.endOfStream).errResync = r.errResync := rfl

/-! ### State.afterEdge -/

@[simp] theorem State.afterEdge_regs (s : State) (r : Regs) : (s.afterEdge r).regs = r := rfl
@[simp] theorem State.afterEdge_cfg (s : State) (r : Regs) : (s.afterEdge r).cfg = s.cfg := rfl
@[simp] theorem State.afterEdge_dec (s : State) (r : Regs) : (s.afterEdge r).dec =
    decodeOutputs r.frValid r.frData s.cfg := rfl
@[simp] theorem State.afterEdge_inputs (s : State) (r : Regs) : (s.afterEdge r).inputs = s.inputs := rfl
@[simp] theorem State.afterEdge_clock (s : State) (r : Regs) : (s.afterEdge r).clock = s.clock := rfl

/-! ### State.drive -/

@[simp] theorem State.drive_regs (s : State) (d : DecOut) : (s.drive d).regs = s.regs := rfl
@[simp] theorem State.drive_cfg (s : State) (d : DecOut) : (s.drive d).cfg = s.cfg := rfl
@[simp] theorem State.drive_dec (s : State) (d : DecOut) : (s.drive d).dec = d := rfl
@[simp] theorem State.drive_inputs (s : State) (d : DecOut) : (s.drive d).inputs = s.inputs := rfl
@[simp] theorem State.drive_clock (s : State) (d : DecOut) : (s.drive d).clock = s.clock := rfl

/-! ### State.selectSyncEdge -/

@[simp] theorem State.selectSyncEdge_regs (s : State) (e : SyncEdge) : (s.selectSyncEdge e).regs = s.regs := rfl
@[simp] theorem State.selectSyncEdge_cfg (s : State) (e : SyncEdge) : (s.selectSyncEdge e).cfg =
    { s.cfg with syncEdge := e } := rfl
@[simp] theorem State.selectSyncEdge_dec (s : State) (e : SyncEdge) : (s.selectSyncEdge e).dec = s.dec := rfl
@[simp] theorem State.selectSyncEdge_inputs (s : State) (e : SyncEdge) : (s.selectSyncEdge e).inputs = s.inputs := rfl
@[simp] theorem State.selectSyncEdge_clock (s : State) (e : SyncEdge) : (s.selectSyncEdge e).clock = s.clock := rfl

/-! ### State.selectSignMode -/

@[simp] theorem State.selectSignMode_regs (s : State) (m : SignMode) : (s.selectSignMode m).regs = s.regs := rfl
@[simp] theorem State.selectSignMode_cfg (s : State) (m : SignMode) : (s.selectSignMode m).cfg =
    { s.cfg with signMode := m } := rfl
@[simp] theorem State.selectSignMode_dec (s : State) (m : SignMode) : (s.selectSignMode m).dec =
    { s.dec with posFx := posFxOf s.regs.frData { s.cfg with signMode := m } } := rfl
@[simp] theorem State.selectSignMode_inputs (s : State) (m : SignMode) : (s.selectSignMode m).inputs = s.inputs := rfl
@[simp] theorem State.selectSignMode_clock (s : State) (m : SignMode) : (s.selectSignMode m).clock = s.clock := rfl

/-! ### State.selectAlign -/

@[simp] theorem State.selectAlign_regs (s : State) (a : Bool) : (s.selectAlign a).regs = s.regs := rfl
@[simp] theorem State.selectAlign_cfg (s : State) (a : Bool) : (s.selectAlign a).cfg = { s.cfg with align := a } := rfl
@[simp] theorem State.selectAlign_dec (s : State) (a : Bool) : (s.selectAlign a).dec =
    { s.dec with posFx := posFxOf s.regs.frData { s.cfg with align := a } } := rfl
@[simp] theorem State.selectAlign_inputs (s : State) (a : Bool) : (s.selectAlign a).inputs = s.inputs := rfl
@[simp] theorem State.selectAlign_clock (s : State) (a : Bool) : (s.selectAlign a).clock = s.clock := rfl

/-! ### State.takePorts -/

@[simp] theorem State.takePorts_regs (s : State) : (s.takePorts).regs = s.regs := rfl
@[simp] theorem State.takePorts_cfg (s : State) : (s.takePorts).cfg = s.cfg := rfl
@[simp] theorem State.takePorts_dec (s : State) : (s.takePorts).dec = s.dec := rfl
@[simp] theorem State.takePorts_inputs (s : State) : (s.takePorts).inputs = s.inputs.tail := rfl
@[simp] theorem State.takePorts_clock (s : State) : (s.takePorts).clock = s.clock + 1 := rfl

/-! ### State.push -/

@[simp] theorem State.push_regs (s : State) (p : Ports) : (s.push p).regs = s.regs := rfl
@[simp] theorem State.push_cfg (s : State) (p : Ports) : (s.push p).cfg = s.cfg := rfl
@[simp] theorem State.push_dec (s : State) (p : Ports) : (s.push p).dec = s.dec := rfl
@[simp] theorem State.push_inputs (s : State) (p : Ports) : (s.push p).inputs = p :: s.inputs := rfl
@[simp] theorem State.push_clock (s : State) (p : Ports) : (s.push p).clock = s.clock := rfl

end Sys2Proof.Machine
end

