-- ==== Sys2Proof/Laws/Ops.lean ====
section
/-! SUPPORT. One lemma per shared operation that says once everything it can do. -/

namespace Sys2Proof.Machine

/-! ## Sequencing -/

@[simp] theorem andThen_next (s : State) (k : State → Host.Outcome State Fault Refusal) :
    andThen (.next s) k = k s := rfl
@[simp] theorem andThen_fault (f : Fault) (k : State → Host.Outcome State Fault Refusal) :
    andThen (.fault f) k = .fault f := rfl
@[simp] theorem andThen_refused (r : Refusal) (k : State → Host.Outcome State Fault Refusal) :
    andThen (.refused r) k = .refused r := rfl

/-- Two units in sequence go on exactly where both do. -/
theorem andThen_eq_next {o : Host.Outcome State Fault Refusal} {k : State → Host.Outcome State Fault Refusal}
    {t : State} : andThen o k = .next t ↔ ∃ s, o = .next s ∧ k s = .next t := by
  cases o <;> simp

/-! ## The forms of a sample -/

theorem selectForm_huntSkip {cnt : Count} {e : Bool} :
    selectForm cnt e = some .huntSkip ↔ cnt = 0#5 ∧ e = false := by
  revert cnt e; decide

theorem selectForm_start {cnt : Count} {e : Bool} : selectForm cnt e = some .start ↔ cnt = 0#5 ∧ e = true := by
  revert cnt e; decide

theorem selectForm_accum {cnt : Count} {e : Bool} :
    selectForm cnt e = some .accum ↔ cnt ≠ 0#5 ∧ cnt < 19#5 ∧ e = false := by
  revert cnt e; decide

theorem selectForm_complete {cnt : Count} {e : Bool} :
    selectForm cnt e = some .complete ↔ cnt = 19#5 ∧ e = false := by
  revert cnt e; decide

theorem selectForm_resync {cnt : Count} {e : Bool} :
    selectForm cnt e = some .resync ↔ cnt ≠ 0#5 ∧ cnt ≤ 19#5 ∧ e = true := by
  revert cnt e; decide

theorem selectForm_none {cnt : Count} {e : Bool} : selectForm cnt e = none ↔ 19#5 < cnt := by
  revert cnt e; decide

@[simp] theorem Regs.applyForm_huntSkip (r : Regs) (sync data : Bool) (ts : Timestamp) :
    r.applyForm .huntSkip sync data ts = r := rfl
@[simp] theorem Regs.applyForm_start (r : Regs) (sync data : Bool) (ts : Timestamp) :
    r.applyForm .start sync data ts = r.beginFrame sync data ts := rfl
@[simp] theorem Regs.applyForm_accum (r : Regs) (sync data : Bool) (ts : Timestamp) :
    r.applyForm .accum sync data ts = r.accumulate sync data := rfl
@[simp] theorem Regs.applyForm_complete (r : Regs) (sync data : Bool) (ts : Timestamp) :
    r.applyForm .complete sync data ts = r.completeFrame sync data ts := rfl
@[simp] theorem Regs.applyForm_resync (r : Regs) (sync data : Bool) (ts : Timestamp) :
    r.applyForm .resync sync data ts = (r.beginFrame sync data ts).signalResync := rfl
@[simp] theorem Regs.endStreamIf_true (r : Regs) : r.endStreamIf true = r.endOfStream := rfl
@[simp] theorem Regs.endStreamIf_false (r : Regs) : r.endStreamIf false = r := rfl

/-- A sample goes on exactly in the form the state selects. -/
theorem runSample_eq_next {inEos sync data : Bool} {ts : Timestamp} {s t : State} :
    runSample inEos sync data ts s = .next t ↔
      ∃ f, s.form sync = some f ∧ t = s.afterEdge ((s.regs.acceptSample f sync data ts).endStreamIf inEos) := by
  unfold runSample; cases h : s.form sync <;> simp [eq_comm]

/-- A form row goes on exactly where the state selects it. -/
theorem runForm_eq_next {f : SampleForm} {inEos sync data : Bool} {ts : Timestamp} {s t : State} :
    runForm f inEos sync data ts s = .next t ↔
      s.form sync = some f ∧ t = s.afterEdge ((s.regs.acceptSample f sync data ts).endStreamIf inEos) := by
  unfold runForm
  cases h : s.form sync with
  | none => simp
  | some g =>
    by_cases hg : g = f
    · simp [hg, eq_comm]
    · simp [hg]

/-- SAMPLE and SAMPLE_EOS are the row of the form that the state selects. -/
theorem runSample_eq_runForm {f : SampleForm} {sync : Bool} {s : State} (h : s.form sync = some f)
    (inEos data : Bool) (ts : Timestamp) : runSample inEos sync data ts s = runForm f inEos sync data ts s := by
  simp [runSample, runForm, h]

/-! ## The decoder -/

theorem decodeOutputs_std16 {w : FrameWord} (h : classify w = .std16) (v : Bool) (cfg : Cfg) :
    decodeOutputs v w cfg = decodeStd16 v (w.extractLsb' 1 16) (w.getLsbD 0) cfg := by simp [decodeOutputs, h]

theorem decodeOutputs_enh18 {w : FrameWord} (h : classify w = .enh18) (v : Bool) (cfg : Cfg) :
    decodeOutputs v w cfg = decodeEnh18 v (w.extractLsb' 1 18) (w.getLsbD 0) cfg := by simp [decodeOutputs, h]

theorem decodeOutputs_unknown {w : FrameWord} (h : classify w = .unknown) (v : Bool) (cfg : Cfg) :
    decodeOutputs v w cfg = decodeUnknown v := by simp [decodeOutputs, h]

/-- The six outputs of the decoder, each by its own function (R66 to R70, R74, R79). -/
theorem decodeOutputs_fields (v : Bool) (w : FrameWord) (cfg : Cfg) :
    (decodeOutputs v w cfg).valid = gateValid v (classify w) ∧
    (decodeOutputs v w cfg).unknownHeader = gateUnknownHeader v (classify w) ∧
    (decodeOutputs v w cfg).mode = decide (classify w = .enh18) ∧
    (decodeOutputs v w cfg).position = decPosition w ∧
    (decodeOutputs v w cfg).posFx = posFxOf w cfg := by
  cases h : classify w <;>
    simp [decodeOutputs, decodeStd16, decodeEnh18, decodeUnknown, decPosition, posFxOf, h, scale, scaleValue]

/-- A frame-class row drives exactly the decoder's outputs for its word. -/
theorem exec_decodeFrame (w : FrameWord) (s : State) :
    exec (decodeFrame w) s = .next (s.drive (decodeOutputs s.regs.frValid w s.cfg)) := by
  cases h : classify w with
  | std16 => simp [decodeFrame, decodeOutputs, h, exec, execStd16]
  | enh18 => simp [decodeFrame, decodeOutputs, h, exec, execEnh18]
  | unknown =>
    simp only [decodeFrame, decodeOutputs, h]
    split_ifs <;> simp [exec, execUnk000, execUnk010, execUnk011]

/-- Where the outputs already follow the registers, the decoder's row changes nothing (R33, R64). -/
theorem frame_instr_keeps_settled {s : State} (h : s.Settled) : exec (frameInstr s) s = .next s := by
  rw [frameInstr, exec_decodeFrame]
  unfold State.drive; rw [← h]

theorem afterEdge_settled (s : State) (r : Regs) : (s.afterEdge r).Settled := rfl

end Sys2Proof.Machine
end

