-- ==== Sys2Proof/Laws/PerInstr.lean ====
section
/-! SUPPORT. For every instruction: its encoding stands in the row of spec/opcode_table.json that its constructor is for,
in the row's format and with the row's fixed bits. -/

/-- The encoded word has the format of the instruction's row, and its masked bits are the row's match. -/
def Sys2Proof.Laws.EncodeMatchesRow.Statement (i : Sys2Proof.Instr) : Prop :=
  (Sys2Proof.encode i).format = i.row.1 ∧ (Sys2Proof.encode i).bits &&& i.row.2.1 = i.row.2.2

namespace Sys2Proof.Laws.EncodeMatchesRow

/-- A word agrees with a match under a mask where it does so bit by bit. -/
theorem masked_eq {w m v : BitVec 20} (h : ∀ i, i < 20 → (w.getLsbD i && m.getLsbD i) = v.getLsbD i) :
    w &&& m = v := by
  apply BitVec.eq_of_getLsbD_eq
  intro i hi
  simpa using h i hi

theorem std16 (p : BitVec 16) (b : Bool) : Statement (.std16 p b) :=
  ⟨rfl, by
    apply masked_eq
    intro i hi
    simp only [encode, Code.bits, Instr.row, BitVec.getLsbD_append]
    interval_cases i <;> simp⟩

theorem enh18 (p : BitVec 18) (b : Bool) : Statement (.enh18 p b) :=
  ⟨rfl, by
    apply masked_eq
    intro i hi
    simp only [encode, Code.bits, Instr.row, BitVec.getLsbD_append]
    interval_cases i <;> simp⟩

theorem unk000 (x : BitVec 17) : Statement (.unk000 x) :=
  ⟨rfl, by
    apply masked_eq
    intro i hi
    simp only [encode, encodeUnknown, Code.bits, Instr.row, BitVec.getLsbD_append]
    interval_cases i <;> simp⟩

theorem unk010 (x : BitVec 17) : Statement (.unk010 x) :=
  ⟨rfl, by
    apply masked_eq
    intro i hi
    simp only [encode, encodeUnknown, Code.bits, Instr.row, BitVec.getLsbD_append]
    interval_cases i <;> simp⟩

theorem unk011 (x : BitVec 17) : Statement (.unk011 x) :=
  ⟨rfl, by
    apply masked_eq
    intro i hi
    simp only [encode, encodeUnknown, Code.bits, Instr.row, BitVec.getLsbD_append]
    interval_cases i <;> simp⟩

theorem reset (a b : Bool) : Statement (.reset a b) :=
  ⟨rfl, by cases a <;> cases b <;> decide⟩

theorem idle : Statement (.idle) :=
  ⟨rfl, rfl⟩

theorem sample (a b : Bool) (t : Timestamp) : Statement (.sample a b t) :=
  ⟨rfl, by simp only [encode, Code.bits, Instr.row]; decide⟩

theorem eos : Statement (.eos) :=
  ⟨rfl, rfl⟩

theorem sampleEos (a b : Bool) (t : Timestamp) : Statement (.sampleEos a b t) :=
  ⟨rfl, by simp only [encode, Code.bits, Instr.row]; decide⟩

theorem huntSkip (a b d : Bool) (t : Timestamp) : Statement (.huntSkip a b d t) :=
  ⟨rfl, by simp only [encode, Code.bits, Instr.row]; cases a <;> decide⟩

theorem start (a b d : Bool) (t : Timestamp) : Statement (.start a b d t) :=
  ⟨rfl, by simp only [encode, Code.bits, Instr.row]; cases a <;> decide⟩

theorem accum (a b d : Bool) (t : Timestamp) : Statement (.accum a b d t) :=
  ⟨rfl, by simp only [encode, Code.bits, Instr.row]; cases a <;> decide⟩

theorem complete (a b d : Bool) (t : Timestamp) : Statement (.complete a b d t) :=
  ⟨rfl, by simp only [encode, Code.bits, Instr.row]; cases a <;> decide⟩

theorem resync (a b d : Bool) (t : Timestamp) : Statement (.resync a b d t) :=
  ⟨rfl, by simp only [encode, Code.bits, Instr.row]; cases a <;> decide⟩

theorem edgeRising : Statement (.edgeRising) :=
  ⟨rfl, rfl⟩

theorem edgeFalling : Statement (.edgeFalling) :=
  ⟨rfl, rfl⟩

theorem edgeBoth : Statement (.edgeBoth) :=
  ⟨rfl, rfl⟩

theorem edgeRsvd : Statement (.edgeRsvd) :=
  ⟨rfl, rfl⟩

theorem sxUnsigned : Statement (.sxUnsigned) :=
  ⟨rfl, rfl⟩

theorem sxOffset : Statement (.sxOffset) :=
  ⟨rfl, rfl⟩

theorem sxTwos : Statement (.sxTwos) :=
  ⟨rfl, rfl⟩

theorem sxRsvd : Statement (.sxRsvd) :=
  ⟨rfl, rfl⟩

theorem alignOff : Statement (.alignOff) :=
  ⟨rfl, rfl⟩

theorem alignOn : Statement (.alignOn) :=
  ⟨rfl, rfl⟩

end Sys2Proof.Laws.EncodeMatchesRow
end

