-- ==== Sys2Proof/Laws/Step.lean ====
section
/-! SUPPORT. Once, what a step can do: the configuration of the cycle, and the step function of R52 on the registers. -/

namespace Sys2Proof.Machine

/-- The register part of R52, as one function of the ports, the edge convention and the registers; `none` where a sample
has no form. -/
def edgeRegs (p : Ports) (e : SyncEdge) (r : Regs) : Option Regs :=
  if p.rst then some Regs.reset
  else if p.inValid then
    (selectForm r.cnt (startEdge r.prevValid r.prevSync p.inSync e)).map fun f =>
      (r.acceptSample f p.inSync p.inData p.inTs).endStreamIf p.inEos
  else some (r.clearPulses.endStreamIf p.inEos)

/-- The configuration that legal port levels select (R12 to R14). -/
def portsCfg (p : Ports) : Cfg where
  syncEdge := if p.cfgSyncEdge = 0#2 then .rising else if p.cfgSyncEdge = 1#2 then .falling else .both
  signMode := if p.cfgSignMode = 0#2 then .unsigned else if p.cfgSignMode = 1#2 then .offsetBinary else .twosComplement
  align    := p.cfgAlign

/-- The three values of a 2-bit field that is not reserved. -/
theorem two_bits_cases (v : BitVec 2) : v = 0#2 ∨ v = 1#2 ∨ v = 2#2 ∨ v = 3#2 := by
  revert v; decide

/-- A control row's meaning is R52 on the registers, followed by the outputs. -/
theorem exec_controlInstr (p : Ports) (s : State) :
    exec (controlInstr p) s =
      match edgeRegs p s.cfg.syncEdge s.regs with
      | some r => .next (s.afterEdge r)
      | none => .fault .cntOutOfRange := by
  rcases p with ⟨rst, inValid, inData, inSync, inTs, inEos, e, m, a⟩
  cases rst <;> cases inValid <;> cases inEos <;>
    simp [controlInstr, controlWord, decodeControl, exec, execReset, execIdle, execSample, execEos, execSampleEos,
      runSample, edgeRegs, State.form, State.isEdge] <;>
    split <;> simp_all

/-- A legal configuration is selected, and of the outputs only `dec_pos_fx` follows it. -/
theorem configure_legal {p : Ports} (h : p.legalConfig = true) (s : State) :
    ∃ d, configure p s = .next { s with cfg := portsCfg p, dec := d } := by
  rcases p with ⟨rst, inValid, inData, inSync, inTs, inEos, e, m, a⟩
  simp only [Ports.legalConfig, bne_iff_ne, ne_eq, Bool.and_eq_true] at h
  obtain ⟨he, hm⟩ := h
  rcases two_bits_cases e with rfl | rfl | rfl | rfl <;> rcases two_bits_cases m with rfl | rfl | rfl | rfl <;>
    cases a <;> first | exact absurd rfl he | exact absurd rfl hm | exact ⟨_, rfl⟩

/-- A reserved configuration is refused (R47). -/
theorem configure_reserved {p : Ports} (h : p.legalConfig = false) (s : State) :
    configure p s = .refused (if p.cfgSyncEdge = 3#2 then .reservedSyncEdge else .reservedSignMode) := by
  rcases p with ⟨rst, inValid, inData, inSync, inTs, inEos, e, m, a⟩
  rcases two_bits_cases e with rfl | rfl | rfl | rfl <;> rcases two_bits_cases m with rfl | rfl | rfl | rfl <;>
    first | rfl | simp [Ports.legalConfig] at h

/-- The state a step under a legal configuration leaves, once its registers are known. -/
def State.stepped (s : State) (r : Regs) : State :=
  ({ s with cfg := portsCfg s.ports, inputs := s.inputs.tail, clock := s.clock + 1 } : State).afterEdge r

@[simp] theorem State.stepped_regs (s : State) (r : Regs) : (s.stepped r).regs = r := rfl
@[simp] theorem State.stepped_cfg (s : State) (r : Regs) : (s.stepped r).cfg = portsCfg s.ports := rfl
@[simp] theorem State.stepped_dec (s : State) (r : Regs) :
    (s.stepped r).dec = decodeOutputs r.frValid r.frData (portsCfg s.ports) := rfl
@[simp] theorem State.stepped_inputs (s : State) (r : Regs) : (s.stepped r).inputs = s.inputs.tail := rfl
@[simp] theorem State.stepped_clock (s : State) (r : Regs) : (s.stepped r).clock = s.clock + 1 := rfl

/-- A step under a legal configuration: R52 on the registers. -/
theorem step_legal {s : State} (h : s.ports.legalConfig = true) :
    step s =
      match edgeRegs s.ports (portsCfg s.ports).syncEdge s.regs with
      | some r => .next (s.stepped r)
      | none => .fault .cntOutOfRange := by
  obtain ⟨d, hd⟩ := configure_legal h s.takePorts
  rw [step, cycle, hd, andThen_next, exec_controlInstr]
  cases he : edgeRegs s.ports (portsCfg s.ports).syncEdge s.regs with
  | none => simp [he]
  | some r =>
    simp only [State.takePorts_regs, he, andThen_next]
    rw [frame_instr_keeps_settled (afterEdge_settled _ _)]
    rfl

/-- A step under a reserved configuration is refused (R47). -/
theorem step_reserved {s : State} (h : s.ports.legalConfig = false) :
    step s = .refused (if s.ports.cfgSyncEdge = 3#2 then .reservedSyncEdge else .reservedSignMode) := by
  rw [step, cycle, configure_reserved h, andThen_refused]

/-- Everything a step that goes on has done. -/
theorem step_eq_next {s t : State} :
    step s = .next t ↔ s.ports.legalConfig = true ∧
      ∃ r, edgeRegs s.ports (portsCfg s.ports).syncEdge s.regs = some r ∧ t = s.stepped r := by
  cases h : s.ports.legalConfig with
  | false => simp [step_reserved h]
  | true =>
    rw [step_legal h]
    cases edgeRegs s.ports (portsCfg s.ports).syncEdge s.regs <;> simp [eq_comm]

/-- Every case of R52 on the registers: RESET, one of the five forms, or no sample; then the end of the stream. -/
theorem edgeRegs_cases {p : Ports} {e : SyncEdge} {r q : Regs} (h : edgeRegs p e r = some q) :
    (p.rst = true ∧ q = Regs.reset) ∨
    (p.rst = false ∧ p.inValid = false ∧ q = r.clearPulses.endStreamIf p.inEos) ∨
    (p.rst = false ∧ p.inValid = true ∧ ∃ f,
      selectForm r.cnt (startEdge r.prevValid r.prevSync p.inSync e) = some f ∧
      q = (r.acceptSample f p.inSync p.inData p.inTs).endStreamIf p.inEos) := by
  unfold edgeRegs at h
  split_ifs at h with h₁ h₂
  · exact .inl ⟨h₁, by simpa using h.symm⟩
  · obtain ⟨f, hf, rfl⟩ := Option.map_eq_some_iff.mp h
    exact .inr (.inr ⟨by simpa using h₁, h₂, f, hf, rfl⟩)
  · exact .inr (.inl ⟨by simpa using h₁, by simpa using h₂, by simpa using h.symm⟩)

end Sys2Proof.Machine
end

