-- ==== Sys2Proof/Tests/Slice0.lean ====
section
/-! SUPPORT. The model's own tests. Expected values are the spec's: the encoding tables of 30_encoding.md and the vectors
of 95_test_vectors.md, cited by their ids. The last section shows, for every obligation with hypotheses, a state and
operands that meet them together. -/

open Sys2Proof Sys2Proof.Machine

namespace Sys2Proof.Tests

/-! ## Helpers -/

/-- A next state that satisfies a test. -/
def on (o : Host.Outcome State Fault Refusal) (p : State → Bool) : Bool :=
  match o with
  | .next t => p t
  | .fault _ => false
  | .refused _ => false

/-- The next state of an outcome, or the reset state where it stops. -/
def nextOf (o : Host.Outcome State Fault Refusal) : State :=
  match o with
  | .next t => t
  | .fault _ => State.reset
  | .refused _ => State.reset

/-- The outcome is this refusal. -/
def refusedAs (o : Host.Outcome State Fault Refusal) (r : Refusal) : Bool :=
  match o with
  | .next _ => false
  | .fault _ => false
  | .refused q => decide (q = r)

/-- The outcome is this fault. -/
def faultedAs (o : Host.Outcome State Fault Refusal) (f : Fault) : Bool :=
  match o with
  | .next _ => false
  | .fault g => decide (g = f)
  | .refused _ => false

/-- A state with the given registers, the outputs that follow from them, and an edge convention. -/
def stateOf (r : Regs) (e : SyncEdge := .rising) (inputs : List Ports := []) : State :=
  ({ State.reset with cfg := { Cfg.reset with syncEdge := e }, inputs := inputs } : State).afterEdge r

/-- Registers in a stream: `cnt` and `prev_sync` as given. -/
def midStream (cnt : Count) (prevSync : Bool) : Regs :=
  { Regs.reset with cnt := cnt, prevValid := true, prevSync := prevSync }

/-- Registers that hold a frame word, with `fr_valid = 1`. -/
def holding (w : FrameWord) : Regs := { Regs.reset with frValid := true, frData := w }

/-- The state whose next step completes the frame word `w`. -/
def presented (w : Nat) : State := State.reset.withFetchWord 24 w

/-- The state A11 of 95_test_vectors.md starts from; A16 too. -/
def nineteen : Regs := { midStream 19#5 true with accData := 0x10001#19 }

/-! ## WellFormed: an ill-formed term for each check -/

theorem test_edge_reserved_ill_formed : Instr.edgeRsvd.wellFormed = false := by decide

theorem test_sign_reserved_ill_formed : Instr.sxRsvd.wellFormed = false := by decide

theorem test_ports_reserved_edge : ({ quietPorts with cfgSyncEdge := 3#2 } : Ports).legalConfig = false := by decide

theorem test_ports_reserved_sign : ({ quietPorts with cfgSignMode := 3#2 } : Ports).legalConfig = false := by decide

/-- TS_W ≥ 1 (R7), and no port or register carries a timestamp beyond its TS_W bits (R7, R11). -/
theorem test_timestamps_have_their_width (p : Ports) (r : Regs) :
    1 ≤ Config.tsWidth ∧ p.inTs.toNat < 2 ^ Config.tsWidth ∧ r.tsStart.toNat < 2 ^ Config.tsWidth ∧
    r.frTsStart.toNat < 2 ^ Config.tsWidth ∧ r.frTsEnd.toNat < 2 ^ Config.tsWidth :=
  ⟨Nat.succ_pos _, p.inTs.isLt, r.tsStart.isLt, r.frTsStart.isLt, r.frTsEnd.isLt⟩

/-- The least width leaves room for two timestamps. -/
theorem one_ne_zero_timestamp : (1 : Timestamp) ≠ 0 := by
  intro h
  have h := congrArg BitVec.toNat h
  simp [Config.tsWidth] at h

/-! ## Decode: every row's word, written out from 30_encoding.md -/

/-- Header `001`, 16 position bits, parity (R38; source example 1.1). -/
theorem test_decode_std16 : decode (.frame 0b0010000000000000001_1#20) = .ok (.std16 1#16 true) := by decide

/-- Header `1`, 18 position bits, parity (R39; vector `0xC0000`: `fb[1]` is a position bit). -/
theorem test_decode_enh18 : decode (.frame 0b1100000000000000000_0#20) = .ok (.enh18 0x20000#18 false) := by decide

/-- Header `000` (R41; vector `0x1FFFF`). -/
theorem test_decode_unk000 : decode (.frame 0b000_11111111111111111#20) = .ok (.unk000 0x1FFFF#17) := by decide

/-- Header `010` (R41; vector `0x5ABCD`). -/
theorem test_decode_unk010 : decode (.frame 0x5ABCD#20) = .ok (.unk010 0x1ABCD#17) := by decide

/-- Header `011` (R41; vector `0x60000`). -/
theorem test_decode_unk011 : decode (.frame 0b011_00000000000000000#20) = .ok (.unk011 0#17) := by decide

/-- `C = rst : in_eos : in_valid` (R44). -/
theorem test_decode_control (ts : Timestamp) :
    decode (.control 0b100#3 true true ts) = .ok (.reset false false) ∧
    decode (.control 0b101#3 true true ts) = .ok (.reset false true) ∧
    decode (.control 0b000#3 true true ts) = .ok .idle ∧
    decode (.control 0b001#3 true false ts) = .ok (.sample true false ts) ∧
    decode (.control 0b010#3 true true ts) = .ok .eos ∧
    decode (.control 0b011#3 false true ts) = .ok (.sampleEos false true ts) :=
  ⟨rfl, rfl, rfl, rfl, rfl, rfl⟩

/-- The five forms (R45), each at the bounds of its counts. -/
theorem test_decode_forms (ts : Timestamp) :
    decode (.sampleForm 0b001#3 0#5 false true false ts) = .ok (.huntSkip false true false ts) ∧
    decode (.sampleForm 0b011#3 0#5 true true false ts) = .ok (.start true true false ts) ∧
    decode (.sampleForm 0b001#3 1#5 false true false ts) = .ok (.accum false true false ts) ∧
    decode (.sampleForm 0b001#3 18#5 false true false ts) = .ok (.accum false true false ts) ∧
    decode (.sampleForm 0b001#3 19#5 false true false ts) = .ok (.complete false true false ts) ∧
    decode (.sampleForm 0b001#3 1#5 true true false ts) = .ok (.resync false true false ts) ∧
    decode (.sampleForm 0b001#3 19#5 true true false ts) = .ok (.resync false true false ts) :=
  ⟨rfl, rfl, rfl, rfl, rfl, rfl, rfl⟩

/-- A form needs `rst = 0` and `in_valid = 1`, and `cnt` in 0..19. -/
theorem test_decode_form_rejects :
    decode (.sampleForm 0b101#3 0#5 false true false 3) = .error .notASample ∧
    decode (.sampleForm 0b010#3 0#5 false true false 3) = .error .notASample ∧
    decode (.sampleForm 0b001#3 20#5 true true false 3) = .error .noFormAtCount := by decide

/-- `cfg_sync_edge` (R12). -/
theorem test_decode_sync_edge :
    decode (.cfgSyncEdge 0b00#2) = .ok .edgeRising ∧ decode (.cfgSyncEdge 0b01#2) = .ok .edgeFalling ∧
    decode (.cfgSyncEdge 0b10#2) = .ok .edgeBoth ∧ decode (.cfgSyncEdge 0b11#2) = .ok .edgeRsvd := by decide

/-- `cfg_sign_mode` (R13). -/
theorem test_decode_sign_mode :
    decode (.cfgSignMode 0b00#2) = .ok .sxUnsigned ∧ decode (.cfgSignMode 0b01#2) = .ok .sxOffset ∧
    decode (.cfgSignMode 0b10#2) = .ok .sxTwos ∧ decode (.cfgSignMode 0b11#2) = .ok .sxRsvd := by decide

/-- `cfg_align` (R14). -/
theorem test_decode_align :
    decode (.cfgAlign 0b0#1) = .ok .alignOff ∧ decode (.cfgAlign 0b1#1) = .ok .alignOn := by decide

/-- The host's table words: a frame word in 20 or 24 bits, a byte as the control word; a word too long is rejected. -/
theorem test_table_words :
    decodeTableWord 24 0x20003 = some (.std16 1#16 true) ∧ decodeTableWord 20 0x80001 = some (.enh18 0#18 true) ∧
    decodeTableWord 8 4 = some (.reset false false) ∧ decodeTableWord 8 3 = some (.sampleEos false false 0) ∧
    decodeTableWord 24 0x100000 = none ∧ decodeTableWord 8 8 = none := by decide

/-! ## The frame-class rows (95_test_vectors.md section 2) -/

/-- `0x20003`: mode Standard16, position 1, parity right. -/
theorem test_std16_source_example :
    on (exec (.std16 1#16 true) (stateOf (holding 0x20003#20))) (fun t =>
      t.dec.valid && !t.dec.mode && t.dec.position == 1#18 && t.dec.parityOk && t.err == 0#3) = true := by decide

/-- `0x3FFFF`: the maximum position with a parity error, still delivered. -/
theorem test_std16_parity_error :
    on (exec (.std16 0xFFFF#16 true) (stateOf (holding 0x3FFFF#20))) (fun t =>
      t.dec.valid && t.dec.position == 0x0FFFF#18 && !t.dec.parityOk && t.err == 0#3) = true := by decide

/-- `0x80001`: mode Enhanced18, position 0, parity right. -/
theorem test_enh18_source_example :
    on (exec (.enh18 0#18 true) (stateOf (holding 0x80001#20))) (fun t =>
      t.dec.valid && t.dec.mode && t.dec.position == 0#18 && t.dec.parityOk && t.err == 0#3) = true := by decide

/-- `0xFFFFE`: eighteen set bits fail odd parity. -/
theorem test_enh18_parity_error :
    on (exec (.enh18 0x3FFFF#18 false) (stateOf (holding 0xFFFFE#20))) (fun t =>
      t.dec.valid && t.dec.position == 0x3FFFF#18 && !t.dec.parityOk) = true := by decide

/-- `0x1FFFF`: `UnknownFrameHeader`. -/
theorem test_unk000 :
    on (exec (.unk000 0x1FFFF#17) (stateOf (holding 0x1FFFF#20))) (fun t =>
      !t.dec.valid && t.dec.position == 0#18 && t.err == 0b100#3) = true := by decide

/-- The reset value of `fr_data` reports nothing, for `fr_valid = 0` (R69). -/
theorem test_unk000_at_reset : on (exec (.unk000 0#17) State.reset) (fun t => t.err == 0#3) = true := by decide

/-- `0x5ABCD`: contents ignored. -/
theorem test_unk010 :
    on (exec (.unk010 0x1ABCD#17) (stateOf (holding 0x5ABCD#20))) (fun t =>
      !t.dec.valid && !t.dec.parityOk && t.dec.posFx == 0#20 && t.err == 0b100#3) = true := by decide

/-- `0x7FFFF`. -/
theorem test_unk011 :
    on (exec (.unk011 0x1FFFF#17) (stateOf (holding 0x7FFFF#20))) (fun t =>
      !t.dec.valid && !t.dec.mode && t.err == 0b100#3) = true := by decide

/-! ## The control words (95_test_vectors.md section 4.2) -/

/-- A20. -/
theorem test_reset :
    on (exec (.reset true true) (stateOf { midStream 7#5 true with frValid := true, frData := 0x20003#20 })) (fun t =>
      t.regs == Regs.reset && t.err == 0#3 && !t.dec.valid) = true := by decide

/-- A7. -/
theorem test_idle_in_fill :
    on (exec .idle (stateOf (midStream 7#5 true))) (fun t => t.regs == midStream 7#5 true) = true := by decide

/-- A21: the pulse clears, and the held frame still reads. -/
theorem test_idle_after_frame :
    on (exec .idle (stateOf (holding 0x20003#20))) (fun t =>
      !t.regs.frValid && !t.dec.valid && t.regs.frData == 0x20003#20 && t.dec.position == 1#18) = true := by decide

/-- A1: SAMPLE takes HUNT_SKIP. -/
theorem test_sample_skips :
    on (exec (.sample false true 0) State.reset) (fun t =>
      t.regs.cnt == 0#5 && t.regs.prevValid && !t.regs.prevSync && t.err == 0#3) = true := by decide

/-- A12: the edge is tested before the count. -/
theorem test_sample_resyncs_at_nineteen :
    on (exec (.sample true true 19) (stateOf { midStream 19#5 false with frData := 0x80001#20 })) (fun t =>
      t.regs.cnt == 1#5 && t.regs.accData == 1#19 && t.err == 0b010#3 && !t.regs.frValid &&
      t.regs.frData == 0x80001#20) = true := by decide

/-- A14. -/
theorem test_eos_in_hunt :
    on (exec .eos (stateOf (midStream 0#5 true))) (fun t =>
      t.regs.cnt == 0#5 && !t.regs.prevValid && !t.regs.prevSync && t.err == 0#3) = true := by decide

/-- A15. -/
theorem test_eos_truncates :
    on (exec .eos (stateOf (midStream 1#5 true))) (fun t =>
      t.regs.cnt == 0#5 && !t.regs.prevValid && t.err == 0b001#3) = true := by decide

/-- A16. -/
theorem test_sample_eos_completes :
    on (exec (.sampleEos false true 19) (stateOf nineteen)) (fun t =>
      t.regs.cnt == 0#5 && !t.regs.prevValid && t.regs.frValid && t.regs.frData == 0x20003#20 && t.err == 0#3) =
      true := by decide

/-- A17. -/
theorem test_sample_eos_resync_and_truncation :
    on (exec (.sampleEos true true 50) (stateOf (midStream 7#5 false))) (fun t =>
      t.regs.cnt == 0#5 && !t.regs.prevValid && t.err == 0b011#3) = true ∧
    (nextOf (exec (.sampleEos true true 50) (stateOf (midStream 7#5 false)))).regs.tsStart = 50 := ⟨by decide, rfl⟩

/-! ## The SAMPLE forms -/

/-- A5, under BOTH. -/
theorem test_hunt_skip :
    on (exec (.huntSkip false true false 8) (stateOf (midStream 0#5 true) .both)) (fun t =>
      t.regs == midStream 0#5 true) = true := by decide

/-- A19: HUNT_SKIP in a SAMPLE_EOS. -/
theorem test_hunt_skip_at_end_of_stream :
    on (exec (.huntSkip true true false 50) (stateOf (midStream 0#5 true))) (fun t =>
      t.regs.cnt == 0#5 && !t.regs.prevValid && t.err == 0#3) = true := by decide

/-- A2. -/
theorem test_start :
    on (exec (.start false true true 1) (stateOf (midStream 0#5 false))) (fun t =>
      t.regs.cnt == 1#5 && t.regs.accData == 1#19 && t.regs.accSync == 1#19 && t.regs.prevSync) = true ∧
    (nextOf (exec (.start false true true 1) (stateOf (midStream 0#5 false)))).regs.tsStart = 1 := ⟨by decide, rfl⟩

/-- A18: a one-sample frame is truncated. -/
theorem test_start_at_end_of_stream :
    on (exec (.start true true true 50) (stateOf (midStream 0#5 false))) (fun t =>
      t.regs.cnt == 0#5 && !t.regs.prevValid && t.err == 0b001#3) = true := by decide

/-- A9: a falling SYNC under RISING is kept and is no edge; the example of R57 for the bits. -/
theorem test_accum :
    on (exec (.accum false false true 9) (stateOf { midStream 5#5 true with accData := 0b00101#19, accSync := 0b11111#19 }))
      (fun t => t.regs.cnt == 6#5 && t.regs.accData == 0b001011#19 && t.regs.accSync == 0b111110#19 &&
        t.regs.tsStart == 0 && !t.regs.prevSync) = true := by decide

/-- P3 step 25: ACCUM and then the truncation. -/
theorem test_accum_at_end_of_stream :
    on (exec (.accum true true false 24) (stateOf { midStream 4#5 true with accData := 0b1011#19, accSync := 0b1111#19 }))
      (fun t => t.regs.cnt == 0#5 && t.regs.accData == 0x16#19 && t.regs.accSync == 0x1F#19 && t.err == 0b001#3) =
      true := by decide

/-- A11. -/
theorem test_complete :
    on (exec (.complete false false true 19) (stateOf nineteen)) (fun t =>
      t.regs.cnt == 0#5 && t.regs.frValid && t.regs.frData == 0x20003#20 && t.regs.frTsStart == 0 &&
      t.dec.valid) = true ∧
    (nextOf (exec (.complete false false true 19) (stateOf nineteen))).regs.frTsEnd = 19 := ⟨by decide, rfl⟩

/-- A10, under BOTH. -/
theorem test_resync :
    on (exec (.resync false false false 9) (stateOf { midStream 5#5 true with accData := 0b10110#19 } .both)) (fun t =>
      t.regs.cnt == 1#5 && t.regs.accData == 0#19 && t.err == 0b010#3) = true ∧
    (nextOf (exec (.resync false false false 9) (stateOf (midStream 5#5 true) .both))).regs.tsStart = 9 :=
  ⟨by decide, rfl⟩

/-- A form that the state does not select is refused (log 6), and `cnt = 20` faults (log 7). -/
theorem test_form_stops :
    refusedAs (exec (.complete false false true 19) (stateOf (midStream 18#5 true))) .formNotSelected = true ∧
    faultedAs (exec (.complete false false true 19) (stateOf (midStream 20#5 true))) .cntOutOfRange = true := by decide

/-! ## The configuration rows -/

/-- Section 4.1: the edge function under each convention, after a low and after a high sample. -/
theorem test_edge_rising :
    on (exec .edgeRising (stateOf (midStream 0#5 false) .both)) (fun t => t.isEdge true && !t.isEdge false) = true := by
  decide

theorem test_edge_falling :
    on (exec .edgeFalling (stateOf (midStream 0#5 true))) (fun t => t.isEdge false && !t.isEdge true) = true := by decide

/-- The first sample of a stream (R50): FALLING takes a low SYNC, BOTH takes either. -/
theorem test_edge_falling_first :
    on (exec .edgeFalling State.reset) (fun t => t.isEdge false && !t.isEdge true) = true := by decide

theorem test_edge_both :
    on (exec .edgeBoth (stateOf (midStream 0#5 true))) (fun t => t.isEdge false && !t.isEdge true) = true := by decide

theorem test_edge_both_first : on (exec .edgeBoth State.reset) (fun t => t.isEdge false && t.isEdge true) = true := by
  decide

theorem test_edge_reserved : refusedAs (exec .edgeRsvd State.reset) .reservedSyncEdge = true := by decide

/-- Section 3, STD16 `0x08000`. -/
theorem test_sx_unsigned :
    on (exec .sxUnsigned (stateOf (holding 0x30001#20))) (fun t => t.dec.posFx == 0x08000#20) = true := by decide

/-- Section 3, ENH18 `0x3FFFF`. -/
theorem test_sx_unsigned_enh18 :
    on (exec .sxUnsigned (stateOf (holding 0xFFFFF#20))) (fun t => t.dec.posFx == 0x3FFFF#20) = true := by decide

/-- Section 3, STD16 `0x00001`: -32767. -/
theorem test_sx_offset :
    on (exec .sxOffset (stateOf (holding 0x20003#20))) (fun t => t.dec.posFx == 0xF8001#20) = true := by decide

/-- Section 3, ENH18 `0x00000`: -131072. -/
theorem test_sx_offset_enh18 :
    on (exec .sxOffset (stateOf (holding 0x80001#20))) (fun t => t.dec.posFx == 0xE0000#20) = true := by decide

/-- Section 3, STD16 `0x0FFFF`: -1. -/
theorem test_sx_twos :
    on (exec .sxTwos (stateOf (holding 0x3FFFE#20))) (fun t => t.dec.posFx == 0xFFFFF#20) = true := by decide

/-- Section 3, ENH18 `0x20000`: -131072. -/
theorem test_sx_twos_enh18 :
    on (exec .sxTwos (stateOf (holding 0xC0000#20))) (fun t => t.dec.posFx == 0xE0000#20) = true := by decide

theorem test_sx_reserved : refusedAs (exec .sxRsvd State.reset) .reservedSignMode = true := by decide

/-- Section 3, STD16 `0x0FFFE`, UNSIGNED, aligned: 262136. -/
theorem test_align_on :
    on (exec .alignOn (stateOf (holding 0x3FFFC#20))) (fun t => t.dec.posFx == 0x3FFF8#20) = true := by decide

/-- Section 3, ENH18 `0x20001`: alignment leaves it. -/
theorem test_align_on_enh18 :
    on (exec .alignOn (stateOf (holding 0xC0002#20))) (fun t => t.dec.posFx == 0x20001#20) = true := by decide

/-- Section 3, STD16 `0x00001`, not aligned. -/
theorem test_align_off :
    on (exec .alignOff (stateOf (holding 0x20003#20))) (fun t => t.dec.posFx == 0x00001#20) = true := by decide

/-! ## One step -/

/-- P4 step 22: FALLING, two's complement, aligned; the frame is delivered with its parity error and no error wire. -/
theorem test_step_completes :
    let s := stateOf { midStream 19#5 false with accData := 0x18000#19, tsStart := 100 } .rising
      [{ quietPorts with inValid := true, inSync := true, inTs := 119, cfgSyncEdge := 1#2, cfgSignMode := 2#2,
                         cfgAlign := true }]
    on (step s) (fun t =>
      t.regs.frValid && t.regs.frData == 0x30000#20 && t.dec.position == 0x08000#18 && !t.dec.parityOk &&
      t.dec.posFx == 0xE0000#20 && t.err == 0#3) = true ∧
    (nextOf (step s)).regs.frTsStart = 100 ∧ (nextOf (step s)).regs.frTsEnd = 119 := ⟨by decide, rfl, rfl⟩

/-- R98, R47: a reserved configuration refuses the cycle, a RESET cycle too (log 8). -/
theorem test_step_refuses_reserved :
    refusedAs (step (stateOf Regs.reset .rising [{ quietPorts with rst := true, cfgSyncEdge := 3#2 }]))
      .reservedSyncEdge = true := by decide

/-- A table word presented to the machine is what its next step decodes. -/
theorem test_step_runs_presented_words :
    on (step (presented 0x20003)) (fun t => t.regs.frData == 0x20003#20 && t.dec.position == 1#18 && t.dec.valid) =
      true ∧
    on (step (presented 0x40000)) (fun t => t.regs.frData == 0x40000#20 && t.err == 0b100#3) = true ∧
    on (step (State.reset.withFetchWord 8 3)) (fun t => !t.regs.prevValid && t.err == 0#3) = true := by decide

/-! ## Witnesses: a state and operands that meet an obligation's hypotheses together -/

/-- The configuration RISING, UNSIGNED, not aligned. -/
def rising : Cfg := Cfg.reset

/-- A stream of samples: SYNC 1 but for the last of each 20 (R62's example waveform), data as the bits of `w` in arrival
order. -/
def frameSamples (w : FrameWord) : List Sample :=
  (List.range 20).map fun i => { sync := decide (i ≠ 19), data := w.getLsbD (19 - i), ts := 0 }

/-- The first `n` samples of the frame `0x20003`, the last of them with SYNC low, so that the next sample can be an edge. -/
def partialFrame (n : Nat) : List Sample :=
  (List.range n).map fun i => { sync := decide (i = 0 ∨ i + 1 < n), data := i == 2, ts := 0 }

/-- A state whose next cycle has the given ports. -/
def facing (r : Regs) (p : Ports) : State := stateOf r .rising [p]

/-- The state one step after `presented w`. -/
def decoded (w : Nat) : State := nextOf (step (presented w))

theorem witness_DecodeInvertsEncode :
    (Instr.std16 1#16 true).wellFormed = true ∧ Instr.edgeBoth.wellFormed = true ∧
    (Instr.complete true false true 1).wellFormed = true := by decide

theorem witness_Standard16FrameIsDecoded : (0x20003#20 : FrameWord).extractLsb' 17 3 = 0b001#3 := by decide

theorem witness_Enhanced18FrameIsDecoded : (0x80001#20 : FrameWord).getLsbD 19 = true := by decide

theorem witness_UnknownFrameIsReported :
    (0x1FFFF#20 : FrameWord).extractLsb' 17 3 = 0b000#3 ∧ (0x5ABCD#20 : FrameWord).extractLsb' 17 3 = 0b010#3 ∧
    (0x7FFFF#20 : FrameWord).extractLsb' 17 3 = 0b011#3 := by decide

/-- Also for the class clauses of OffsetModeSubtractsTheMidpoint, AlignmentMultipliesStandard16ByFour and
UnknownFrameScalesToZero. -/
theorem witness_ParityChecksTheCoverage :
    classify 0x20003#20 = .std16 ∧ classify 0x80001#20 = .enh18 ∧ classify 0x40000#20 = .unknown := by decide

theorem witness_AlignmentMultipliesStandard16ByFour :
    classify (stateOf (holding 0x30001#20)).regs.frData = .std16 := by decide

/-- The step premise of DecoderOutputsAreGated, with each class. -/
theorem witness_DecoderOutputsAreGated :
    (step (presented 0x20003) = .next (decoded 0x20003) ∧ classify (decoded 0x20003).regs.frData = .std16) ∧
    (step (presented 0x80001) = .next (decoded 0x80001) ∧ classify (decoded 0x80001).regs.frData = .enh18) ∧
    (step (presented 0x40000) = .next (decoded 0x40000) ∧ classify (decoded 0x40000).regs.frData = .unknown) := by
  refine ⟨⟨rfl, by decide⟩, ⟨rfl, by decide⟩, ⟨rfl, by decide⟩⟩

theorem witness_EachRawFrameHasOneResult :
    step (presented 0x40000) = .next (decoded 0x40000) ∧ (decoded 0x40000).regs.frValid = true := ⟨rfl, by decide⟩

theorem witness_ParityMismatchNeverSuppressesTheFrame :
    step (presented 0x20001) = .next (decoded 0x20001) ∧ classify (decoded 0x20001).regs.frData ≠ .unknown ∧
    (decoded 0x20001).regs.frValid = true ∧ (decoded 0x20001).dec.parityOk = false := ⟨rfl, by decide⟩

/-- Two different states whose steps leave the same `fr_valid`, `fr_data` and configuration. -/
theorem witness_DecodingIsPure :
    let s := presented 0x20003
    let s' : State := { s with clock := 7, dec := { s.dec with mode := true } }
    let t' := nextOf (step s')
    s ≠ s' ∧ step s = .next (decoded 0x20003) ∧ step s' = .next t' ∧
      (decoded 0x20003).regs.frValid = t'.regs.frValid ∧ (decoded 0x20003).regs.frData = t'.regs.frData ∧
      (decoded 0x20003).cfg = t'.cfg := ⟨by decide, rfl, rfl, by decide⟩

theorem witness_ScaleUnitIsAPureAddedOutput :
    Instr.alignOn ∈ [Instr.sxUnsigned, .sxOffset, .sxTwos, .alignOff, .alignOn] ∧
    step (presented 0x20003) = .next (decoded 0x20003) ∧ (decoded 0x20003).cfg.signMode = .unsigned ∧
    (decoded 0x20003).cfg.align = false := ⟨by decide, rfl, by decide⟩

theorem witness_UnknownFrameScalesToZero :
    classify 0x60000#20 = .unknown ∧ step (presented 0x80001) = .next (decoded 0x80001) := ⟨by decide, rfl⟩

theorem witness_ScaleNeverOverflows : SignMode.offsetBinary ≠ .unsigned ∧ SignMode.twosComplement ≠ .unsigned := by
  decide

theorem witness_CycleOutputsFollowTheCyclesConfiguration :
    let s := facing (holding 0x30000#20) { quietPorts with cfgSignMode := 2#2, cfgAlign := true }
    s.Settled ∧ s.ports.legalConfig = true ∧ s.ports.cfgSignMode = SignMode.bits .twosComplement := by
  exact ⟨rfl, by decide⟩

theorem witness_EdgeRowsSelectTheEdgeFunction :
    State.reset.regs.cnt = 0#5 ∧ (stateOf (midStream 0#5 true)).regs.cnt = 0#5 := by decide

theorem witness_ReservedConfigurationIsRefused :
    (facing Regs.reset { quietPorts with cfgSyncEdge := 3#2 }).ports.cfgSyncEdge = 0b11#2 ∧
    (facing Regs.reset { quietPorts with cfgSignMode := 3#2 }).ports.cfgSyncEdge ≠ 0b11#2 ∧
    (facing Regs.reset { quietPorts with cfgSignMode := 3#2 }).ports.cfgSignMode = 0b11#2 := by decide

theorem witness_HuntSkipDiscardsTheSample :
    (stateOf (midStream 0#5 true)).regs.cnt = 0#5 ∧ (stateOf (midStream 0#5 true)).isEdge true = false := by decide

theorem witness_StartBeginsAFrame :
    (stateOf (midStream 0#5 false)).regs.cnt = 0#5 ∧ (stateOf (midStream 0#5 false)).isEdge true = true := by decide

/-- At both ends of the range of `cnt`. -/
theorem witness_AccumShiftsTheBitsIn : ∀ c ∈ [1#5, 18#5],
    1#5 ≤ (stateOf (midStream c true)).regs.cnt ∧ (stateOf (midStream c true)).regs.cnt ≤ 18#5 ∧
    (stateOf (midStream c true)).isEdge false = false := by decide

/-- The first part, and each of the three premises of the second. -/
theorem witness_CompleteDeliversTheRawFrame :
    ((stateOf nineteen).regs.cnt = 19#5 ∧ (stateOf nineteen).isEdge false = false) ∧
    (let s := facing (midStream 18#5 true) (samplePorts 1#3 false true 0)
     let t := nextOf (step s)
     step s = .next t ∧ s.ports.rst = false ∧ s.regs.cnt ≠ 19#5) ∧
    (let s := facing nineteen quietPorts
     let t := nextOf (step s)
     step s = .next t ∧ s.ports.rst = false ∧ s.ports.inValid = false) ∧
    (let s := facing (midStream 19#5 false) (samplePorts 1#3 true true 0)
     let t := nextOf (step s)
     step s = .next t ∧ s.ports.rst = false ∧
       startEdge s.regs.prevValid s.regs.prevSync s.ports.inSync t.cfg.syncEdge = true) :=
  ⟨by decide, ⟨rfl, by decide⟩, ⟨rfl, by decide⟩, ⟨rfl, by decide⟩⟩

/-- At both ends of the range of `cnt`, the 20th bit included. -/
theorem witness_ResyncRestartsTheFrame : ∀ c ∈ [1#5, 19#5],
    1#5 ≤ (stateOf (midStream c false)).regs.cnt ∧ (stateOf (midStream c false)).regs.cnt ≤ 19#5 ∧
    (stateOf (midStream c false)).isEdge true = true := by decide

theorem witness_UnselectedFormIsRefused : ∀ c ∈ [0#5, 1#5, 18#5],
    (stateOf (midStream c true)).regs.cnt ≤ 19#5 ∧ (stateOf (midStream c true)).form false ≠ some .complete := by decide

theorem witness_SampleBeyondNineteenFaults : ∀ c ∈ [20#5, 31#5], 19#5 < (stateOf (midStream c true)).regs.cnt := by decide

theorem witness_IdleOnlyClearsThePulses : (stateOf (holding 0x20003#20)).Settled := rfl

/-- Also for SampleEosEndsTheStreamAfterItsSample. -/
theorem witness_SampleTakesExactlyOneForm : ∀ c ∈ [0#5, 1#5, 18#5, 19#5],
    (stateOf (midStream c true)).regs.cnt ≤ 19#5 := by decide

theorem witness_ResetClearsEveryRegister :
    let s := facing (midStream 12#5 true) { quietPorts with rst := true, inValid := true, inEos := true }
    s.ports.legalConfig = true ∧ s.ports.rst = true := by decide

theorem witness_StepRunsTheDecodedInstructions :
    let s := facing nineteen { samplePorts 3#3 false true 0 with cfgSyncEdge := 2#2, cfgSignMode := 1#2 }
    decode (.control (controlWord s.ports) s.ports.inSync s.ports.inData s.ports.inTs) =
      .ok (.sampleEos false true 0) ∧
    decode (.cfgSyncEdge s.ports.cfgSyncEdge) = .ok .edgeBoth ∧ Instr.edgeBoth.wellFormed = true ∧
    decode (.cfgSignMode s.ports.cfgSignMode) = .ok .sxOffset ∧ Instr.sxOffset.wellFormed = true ∧
    decode (.cfgAlign (BitVec.ofBool s.ports.cfgAlign)) = .ok .alignOff := by decide

/-- A state in FILL with a sample to come, which satisfies the invariant, and its step. -/
theorem witness_StepKeepsTheInvariant :
    let s := facing { midStream 1#5 true with accData := 1#19, accSync := 1#19 } (samplePorts 1#3 true false 1)
    s.Inv ∧ step s = .next (nextOf (step s)) := by
  refine ⟨⟨⟨by decide, by decide, by decide, by decide, by decide, by decide, by decide, by decide, by decide⟩, rfl⟩,
    rfl⟩

/-- At both ends of the range of `cnt`. -/
theorem witness_StepFollowsTheStepFunction : ∀ c ∈ [0#5, 19#5],
    let s := facing (midStream c true) { samplePorts 3#3 false true 0 with cfgSyncEdge := 2#2 }
    s.ports.legalConfig = true ∧ s.ports.cfgSyncEdge = SyncEdge.bits .both ∧ s.regs.cnt ≤ 19#5 := by decide

theorem witness_LegalCyclesAlwaysRun :
    (facing nineteen quietPorts).regs.cnt ≤ 19#5 ∧ (facing nineteen quietPorts).ports.legalConfig = true := by decide

/-- Each premise of SimultaneousEventsAreRestricted: an unknown header, and both assembler errors at once (A17). -/
theorem witness_SimultaneousEventsAreRestricted :
    (step (presented 0x40000) = .next (decoded 0x40000) ∧ (decoded 0x40000).dec.unknownHeader = true) ∧
    (let s := facing (midStream 7#5 false) (samplePorts 3#3 true true 50)
     let t := nextOf (step s)
     step s = .next t ∧ t.regs.errTrunc = true ∧ t.regs.errResync = true) :=
  ⟨⟨rfl, by decide⟩, ⟨rfl, by decide⟩⟩

theorem witness_SamplePortsAreIgnoredWithoutValid : (eosPorts rising).inValid = false := by decide

theorem witness_IdleCyclesNeverAffectFraming :
    (stateOf (midStream 7#5 true) .rising [idlePorts rising, idlePorts rising, quietPorts]).inputs =
      List.replicate 2 (idlePorts rising) ++ [quietPorts] := by decide

/-- Two frames back to back, from reset: the stream of program P1. -/
theorem witness_BackToBackFramesRoundTrip :
    let frames := [frameSamples 0x20003#20, frameSamples 0x80001#20]
    let s := stateOf Regs.reset .rising (frames.flatten.map (Sample.ports rising) ++ [eosPorts rising])
    (∀ f ∈ frames, f.length = 20) ∧ s.regs.cnt = 0#5 ∧
    edgesOf rising.syncEdge s.regs.prevValid s.regs.prevSync frames.flatten = cadence frames.length ∧
    s.inputs = frames.flatten.map (Sample.ports rising) ++ [eosPorts rising] := by
  refine ⟨by decide, by decide, by decide, rfl⟩

/-- SYNC high throughout, after a high sample. -/
theorem witness_NoEdgeKeepsTheBlockInHunt :
    let xs : List Sample := List.replicate 3 { sync := true, data := true, ts := 0 }
    let s := stateOf (midStream 0#5 true) .rising (xs.map (Sample.ports rising))
    s.regs.cnt = 0#5 ∧ s.inputs = xs.map (Sample.ports rising) ∧
    edgesOf rising.syncEdge s.regs.prevValid s.regs.prevSync xs = List.replicate xs.length false := by decide

/-- Streams of 1, 5 (section 1.6) and 19 samples. -/
theorem witness_TruncatedStreamSignalsOnce : ∀ n ∈ [1, 5, 19],
    let xs := partialFrame n
    let s := stateOf Regs.reset .rising (xs.map (Sample.ports rising) ++ [eosPorts rising])
    1 ≤ xs.length ∧ xs.length ≤ 19 ∧ s.regs.cnt = 0#5 ∧
    edgesOf rising.syncEdge s.regs.prevValid s.regs.prevSync xs = true :: List.replicate (xs.length - 1) false ∧
    s.inputs = xs.map (Sample.ports rising) ++ [eosPorts rising] := by decide

/-- An edge after 2, 10 (section 1.7) and 19 samples under RISING. -/
theorem witness_ResyncDeliversTheNewFrame : ∀ n ∈ [2, 10, 19],
    let xs := partialFrame n
    let f := frameSamples 0x22469#20
    let s := stateOf Regs.reset .rising ((xs ++ f).map (Sample.ports rising))
    1 ≤ xs.length ∧ xs.length ≤ 19 ∧ f.length = 20 ∧ s.regs.cnt = 0#5 ∧
    edgesOf rising.syncEdge s.regs.prevValid s.regs.prevSync (xs ++ f) =
      true :: List.replicate (xs.length - 1) false ++ (true :: List.replicate 19 false) ∧
    s.inputs = (xs ++ f).map (Sample.ports rising) := by decide

/-- The same after a single sample, under BOTH: a first sample is always an edge, and the next toggles SYNC. -/
theorem witness_ResyncDeliversTheNewFrame_first :
    let cfg : Cfg := { rising with syncEdge := .both }
    let xs : List Sample := [{ sync := false, data := true, ts := 0 }]
    let f : List Sample := List.replicate 20 { sync := true, data := true, ts := 0 }
    let s := stateOf Regs.reset .rising ((xs ++ f).map (Sample.ports cfg))
    xs.length = 1 ∧ f.length = 20 ∧ s.regs.cnt = 0#5 ∧
    edgesOf cfg.syncEdge s.regs.prevValid s.regs.prevSync (xs ++ f) =
      true :: List.replicate (xs.length - 1) false ++ (true :: List.replicate 19 false) ∧
    s.inputs = (xs ++ f).map (Sample.ports cfg) := by decide

/-- A frame's pulse with the next frame's first 19 samples to come; `k` at its bound, by the premises that need no run. -/
theorem witness_RawFrameIsStableForTwentyCycles :
    let s := stateOf (holding 0x20003#20) .rising (((frameSamples 0x80001#20).take 19).map (Sample.ports rising))
    s.regs.frValid = true ∧ s.regs.cnt = 0#5 ∧ 19 ≤ s.inputs.length ∧ (∀ p ∈ s.inputs.take 19, p.rst = false) ∧
    (trace 19 s).isSome = true := by decide

/-- Two states that differ in the scale unit's inputs and its output. -/
theorem witness_ScaleInputsReachOnlyTheScaledPosition :
    let s := facing (holding 0x30000#20) quietPorts
    let t := facing (holding 0x30000#20) { quietPorts with cfgSignMode := 2#2, cfgAlign := true }
    s ≠ t ∧ State.SameButScale s t :=
  ⟨by decide, ⟨rfl, rfl, rfl, rfl, .cons ⟨by decide, by decide, rfl⟩ .nil⟩⟩

/-- Two states that differ in a register's and a sample's timestamps. -/
theorem witness_TimestampsNeverDecide :
    let s := facing nineteen (samplePorts 1#3 false true 19)
    let t := facing { nineteen with tsStart := 1 } (samplePorts 1#3 false true 3)
    s ≠ t ∧ State.SameButTimestamps s t :=
  ⟨fun h => one_ne_zero_timestamp (congrArg (fun s => s.regs.tsStart) h).symm, ⟨rfl, rfl, rfl, rfl, .cons rfl .nil⟩⟩

theorem witness_PresentedFrameWordIsDecoded : 0xFFFFF < 2 ^ 20 := by decide

end Sys2Proof.Tests
end

section
/-! PROOFS, family 10_state.md, part 1: decoding and encoding (30_encoding.md). -/

namespace Sys2Proof

/-! ## Frame words: the fields of a word put together from its header and operands -/

theorem frameWord_headerBit {n m : Nat} (h : BitVec n) (p : BitVec m) (b : Bool) (i : Nat) :
    (h ++ p ++ BitVec.ofBool b).getLsbD (m + 1 + i) = h.getLsbD i := by
  rw [BitVec.getLsbD_append, if_neg (by omega), BitVec.getLsbD_append, if_neg (by omega)]
  congr 1; omega

theorem frameWord_header {n m : Nat} (h : BitVec n) (p : BitVec m) (b : Bool) :
    (h ++ p ++ BitVec.ofBool b).extractLsb' (m + 1) n = h := by
  apply BitVec.eq_of_getLsbD_eq
  intro i hi
  rw [BitVec.getLsbD_extractLsb', frameWord_headerBit, decide_eq_true hi, Bool.true_and]

theorem frameWord_position {n m : Nat} (h : BitVec n) (p : BitVec m) (b : Bool) :
    (h ++ p ++ BitVec.ofBool b).extractLsb' 1 m = p := by
  apply BitVec.eq_of_getLsbD_eq
  intro i hi
  rw [BitVec.getLsbD_extractLsb', decide_eq_true hi, Bool.true_and, BitVec.getLsbD_append, if_neg (by omega),
    BitVec.getLsbD_append, if_pos (by omega), Nat.add_sub_cancel_left]

theorem frameWord_parity {n m : Nat} (h : BitVec n) (p : BitVec m) (b : Bool) :
    (h ++ p ++ BitVec.ofBool b).getLsbD 0 = b := by
  rw [BitVec.getLsbD_append, if_pos Nat.one_pos]
  cases b <;> rfl

/-- R65: a word with `W[19] = 1` is Enhanced18. -/
theorem classify_enh18 {w : FrameWord} (h : w.getLsbD 19 = true) : classify w = .enh18 := if_pos h

/-- R65: a word with `W[19:17] = 001` is Standard16. -/
theorem classify_std16 {w : FrameWord} (htop : w.getLsbD 19 = false) (h : w.extractLsb' 17 3 = 1#3) :
    classify w = .std16 := by
  rw [classify, htop, if_neg Bool.false_ne_true, if_pos h]

/-- R65: every other word is Unknown. -/
theorem classify_unknown {w : FrameWord} (htop : w.getLsbD 19 = false) (h : w.extractLsb' 17 3 ≠ 1#3) :
    classify w = .unknown := by
  rw [classify, htop, if_neg Bool.false_ne_true, if_neg h]

/-- R38: the encoder's STD16 word is read back. -/
theorem decodeFrame_std16_word (p : BitVec 16) (b : Bool) :
    decodeFrame (1#3 ++ p ++ BitVec.ofBool b) = .std16 p b := by
  have hclass : classify (1#3 ++ p ++ BitVec.ofBool b) = .std16 :=
    classify_std16 (frameWord_headerBit 1#3 p b 2) (frameWord_header 1#3 p b)
  have hposition : (1#3 ++ p ++ BitVec.ofBool b).extractLsb' 1 16 = p := frameWord_position 1#3 p b
  have hparity : (1#3 ++ p ++ BitVec.ofBool b).getLsbD 0 = b := frameWord_parity 1#3 p b
  simp only [decodeFrame, hclass, hposition, hparity]

/-- R39: the encoder's ENH18 word is read back. -/
theorem decodeFrame_enh18_word (p : BitVec 18) (b : Bool) :
    decodeFrame (1#1 ++ p ++ BitVec.ofBool b) = .enh18 p b := by
  have hclass : classify (1#1 ++ p ++ BitVec.ofBool b) = .enh18 := classify_enh18 (frameWord_headerBit 1#1 p b 0)
  have hposition : (1#1 ++ p ++ BitVec.ofBool b).extractLsb' 1 18 = p := frameWord_position 1#1 p b
  have hparity : (1#1 ++ p ++ BitVec.ofBool b).getLsbD 0 = b := frameWord_parity 1#1 p b
  simp only [decodeFrame, hclass, hposition, hparity]

@[simp] theorem encodeUnknown_header (h : BitVec 3) (x : BitVec 17) :
    (encodeUnknown h x).extractLsb' 17 3 = h := BitVec.extractLsb'_append_eq_left

@[simp] theorem encodeUnknown_rest (h : BitVec 3) (x : BitVec 17) :
    (encodeUnknown h x).extractLsb' 0 17 = x := BitVec.extractLsb'_append_eq_right

/-- R41, R69: a word whose header is neither `1--` nor `001` is Unknown. -/
theorem classify_encodeUnknown {h : BitVec 3} (x : BitVec 17) (htop : h.getLsbD 2 = false) (hstd : h ≠ 1#3) :
    classify (encodeUnknown h x) = .unknown := by
  refine classify_unknown ?_ (by rwa [encodeUnknown_header])
  rw [encodeUnknown, BitVec.getLsbD_append, if_neg (by decide), htop]

theorem decodeFrame_unk000_word (x : BitVec 17) : decodeFrame (encodeUnknown 0#3 x) = .unk000 x := by
  simp [decodeFrame, classify_encodeUnknown]

theorem decodeFrame_unk010_word (x : BitVec 17) : decodeFrame (encodeUnknown 2#3 x) = .unk010 x := by
  simp [decodeFrame, classify_encodeUnknown]

theorem decodeFrame_unk011_word (x : BitVec 17) : decodeFrame (encodeUnknown 3#3 x) = .unk011 x := by
  simp [decodeFrame, classify_encodeUnknown]

/-! ## Control words and the SAMPLE forms -/

/-- R44, R95: a RESET word keeps the two bits that the operation ignores. -/
theorem decodeControl_reset_word (inEos inValid sync data : Bool) (ts : Timestamp) :
    decodeControl (1#1 ++ BitVec.ofBool inEos ++ BitVec.ofBool inValid) sync data ts = .reset inEos inValid := by
  cases inEos <;> cases inValid <;> rfl

theorem encodeFormControl_masked (inEos : Bool) : encodeFormControl inEos &&& 5#3 = 1#3 := by
  cases inEos <;> decide

theorem encodeFormControl_inEos (inEos : Bool) : (encodeFormControl inEos).getLsbD 1 = inEos := by
  cases inEos <;> decide

/-- R45: the encoder's control word beside any state that selects a form is read back as that form. -/
theorem decodeForm_encodeFormControl {cnt : Count} {edge : Bool} {f : SampleForm} (h : selectForm cnt edge = some f)
    (inEos sync data : Bool) (ts : Timestamp) :
    decodeForm (encodeFormControl inEos) cnt edge sync data ts = .ok (f.instr inEos sync data ts) := by
  rw [decodeForm, if_pos (encodeFormControl_masked inEos), h, encodeFormControl_inEos]

/-- Settles O1, row by row: the fields of a frame word, the control words, a state that selects each form, and the
values of the configuration inputs. -/
theorem decodeInvertsEncode : Obligations.DecodeInvertsEncode := by
  intro i _
  cases i with
  | std16 p b => exact congrArg Except.ok (decodeFrame_std16_word p b)
  | enh18 p b => exact congrArg Except.ok (decodeFrame_enh18_word p b)
  | unk000 x => exact congrArg Except.ok (decodeFrame_unk000_word x)
  | unk010 x => exact congrArg Except.ok (decodeFrame_unk010_word x)
  | unk011 x => exact congrArg Except.ok (decodeFrame_unk011_word x)
  | reset inEos inValid => exact congrArg Except.ok (decodeControl_reset_word inEos inValid false false 0)
  | huntSkip inEos sync data ts =>
    exact decodeForm_encodeFormControl (show selectForm 0#5 false = some .huntSkip from rfl) inEos sync data ts
  | start inEos sync data ts =>
    exact decodeForm_encodeFormControl (show selectForm 0#5 true = some .start from rfl) inEos sync data ts
  | accum inEos sync data ts =>
    exact decodeForm_encodeFormControl (show selectForm 1#5 false = some .accum from rfl) inEos sync data ts
  | complete inEos sync data ts =>
    exact decodeForm_encodeFormControl (show selectForm 19#5 false = some .complete from rfl) inEos sync data ts
  | resync inEos sync data ts =>
    exact decodeForm_encodeFormControl (show selectForm 1#5 true = some .resync from rfl) inEos sync data ts
  | idle | sample | eos | sampleEos => rfl
  | edgeRising | edgeFalling | edgeBoth | edgeRsvd => rfl
  | sxUnsigned | sxOffset | sxTwos | sxRsvd => rfl
  | alignOff | alignOn => rfl

/-- Settles O5: the frame words by evaluation, the other words by the equations of their formats. -/
theorem specWordsDecode : Obligations.SpecWordsDecode := fun _ =>
  ⟨by decide, by decide, by decide, rfl, rfl, rfl, rfl, rfl, rfl, rfl, rfl⟩

end Sys2Proof
end

section
/-! PROOFS, family 10_state.md, part 2: reset, the configuration of a cycle, and when a step goes on. -/

namespace Sys2Proof.Machine

/-- Settles O36: R25's table, and the outputs that follow from it. -/
theorem resetStateHoldsTheTable : Obligations.ResetStateHoldsTheTable := ⟨rfl, rfl, rfl⟩

/-! ## Samples outside the counts of R54 -/

theorem State.form_eq_none {s : State} (h : 19#5 < s.regs.cnt) (sync : Bool) : s.form sync = none :=
  selectForm_none.mpr h

/-- U10 (log 7): a sample that no form of R54 takes. -/
theorem runSample_eq_fault {s : State} {sync : Bool} (h : s.form sync = none) (inEos data : Bool) (ts : Timestamp) :
    runSample inEos sync data ts s = .fault .cntOutOfRange := by
  simp [runSample, h]

/-- Settles O30: SAMPLE and SAMPLE_EOS are `runSample`, which finds no form at these counts. -/
theorem sampleBeyondNineteenFaults : Obligations.SampleBeyondNineteenFaults := by
  intro s sync data ts hcnt
  have hform := s.form_eq_none hcnt sync
  exact ⟨runSample_eq_fault hform false data ts, runSample_eq_fault hform true data ts⟩

/-! ## Reserved and legal configurations -/

/-- Settles O23: by row, and by `step_reserved`, which names the edge field first (log 8). -/
theorem reservedConfigurationIsRefused : Obligations.ReservedConfigurationIsRefused := by
  refine ⟨fun s => ⟨rfl, rfl⟩, fun s hedge => ?_, fun s hedge hmode => ?_⟩
  · rw [step_reserved (by simp [Ports.legalConfig, hedge]), if_pos hedge]
  · rw [step_reserved (by simp [Ports.legalConfig, hmode]), if_neg hedge]

/-- R52, R54: with `cnt` in 0..19 every cycle has its register writes. -/
theorem edgeRegs_isSome (p : Ports) (e : SyncEdge) {r : Regs} (h : r.cnt ≤ 19#5) : (edgeRegs p e r).isSome := by
  have hform : selectForm r.cnt (startEdge r.prevValid r.prevSync p.inSync e) ≠ none :=
    fun hnone => BitVec.not_lt.mpr h (selectForm_none.mp hnone)
  unfold edgeRegs
  split_ifs
  · rfl
  · simpa [Option.isSome_iff_ne_none] using hform
  · rfl

/-- Settles O41. -/
theorem legalCyclesAlwaysRun : Obligations.LegalCyclesAlwaysRun := by
  intro s hcnt hlegal
  obtain ⟨r, hr⟩ := Option.isSome_iff_exists.mp (edgeRegs_isSome s.ports (portsCfg s.ports).syncEdge hcnt)
  exact ⟨s.stepped r, step_eq_next.mpr ⟨hlegal, r, hr, rfl⟩⟩

/-! ## The sample's ports without `in_valid` -/

/-- R11: the register writes read the sample's ports only under `in_valid`. -/
theorem edgeRegs_sample_ports {p : Ports} (h : p.inValid = false) (sync data : Bool) (ts : Timestamp) (e : SyncEdge)
    (r : Regs) : edgeRegs { p with inSync := sync, inData := data, inTs := ts } e r = edgeRegs p e r := by
  simp [edgeRegs, h]

/-- Two states whose cycles name the same configuration, write the same registers and leave the same rest step alike. -/
theorem step_eq_of_same_cycle {s t : State} (hlegal : s.ports.legalConfig = t.ports.legalConfig)
    (hedge : s.ports.cfgSyncEdge = t.ports.cfgSyncEdge)
    (hregs : edgeRegs s.ports (portsCfg s.ports).syncEdge s.regs = edgeRegs t.ports (portsCfg t.ports).syncEdge t.regs)
    (hstepped : ∀ r, s.stepped r = t.stepped r) : step s = step t := by
  cases h : t.ports.legalConfig with
  | false => rw [step_reserved (hlegal.trans h), step_reserved h, hedge]
  | true =>
    rw [step_legal (hlegal.trans h), step_legal h, hregs]
    simp only [hstepped]

/-- Settles O43: the configuration does not read the sample's ports, and `edgeRegs` does so only under `in_valid`. -/
theorem samplePortsAreIgnoredWithoutValid : Obligations.SamplePortsAreIgnoredWithoutValid := by
  intro s p rest sync data ts hvalid
  exact step_eq_of_same_cycle rfl rfl (edgeRegs_sample_ports hvalid sync data ts _ s.regs) fun _ => rfl

/-! ## The instructions of a step -/

/-- R12: a convention that is not reserved is selected. -/
theorem exec_decodeSyncEdge {v : BitVec 2} (h : (decodeSyncEdge v).wellFormed = true) (s : State) :
    ∃ e, exec (decodeSyncEdge v) s = .next (s.selectSyncEdge e) := by
  rcases two_bits_cases v with rfl | rfl | rfl | rfl
  · exact ⟨.rising, rfl⟩
  · exact ⟨.falling, rfl⟩
  · exact ⟨.both, rfl⟩
  · simp [decodeSyncEdge, Instr.wellFormed, Instr.reserved] at h

/-- R13: a sign mode that is not reserved is selected. -/
theorem exec_decodeSignMode {v : BitVec 2} (h : (decodeSignMode v).wellFormed = true) (s : State) :
    ∃ m, exec (decodeSignMode v) s = .next (s.selectSignMode m) := by
  rcases two_bits_cases v with rfl | rfl | rfl | rfl
  · exact ⟨.unsigned, rfl⟩
  · exact ⟨.offsetBinary, rfl⟩
  · exact ⟨.twosComplement, rfl⟩
  · simp [decodeSignMode, Instr.wellFormed, Instr.reserved] at h

/-- R14: the alignment is selected. -/
theorem exec_decodeAlign (a : Bool) (s : State) :
    exec (decodeAlign (BitVec.ofBool a)) s = .next (s.selectAlign a) := by
  cases a <;> rfl

/-- R22, R104: a control row leaves outputs that are the functions of the registers it leaves. -/
theorem exec_controlInstr_settled {p : Ports} {s t : State} (h : exec (controlInstr p) s = .next t) : t.Settled := by
  rw [exec_controlInstr] at h
  cases hregs : edgeRegs p s.cfg.syncEdge s.regs with
  | none => simp [hregs] at h
  | some r =>
    obtain rfl : s.afterEdge r = t := by simpa [hregs] using h
    exact afterEdge_settled s r

/-- The decoder's row after a control row changes no outcome (R33, R64). -/
theorem controlInstr_andThen_frameInstr (p : Ports) (s : State) :
    (andThen (exec (controlInstr p) s) fun t => exec (frameInstr t) t) = exec (controlInstr p) s := by
  cases h : exec (controlInstr p) s with
  | next t => exact frame_instr_keeps_settled (exec_controlInstr_settled h)
  | fault => rfl
  | refused => rfl

/-- A step whose configuration goes on is the control row of the ports. -/
theorem step_eq_exec_controlInstr {s s₃ : State} (h : configure s.ports s.takePorts = .next s₃) :
    step s = exec (controlInstr s.ports) s₃ := by
  rw [step, cycle, h, andThen_next, controlInstr_andThen_frameInstr]

/-- Settles O37: the three configuration rows select their values, and the rest of the cycle is the control row. -/
theorem stepRunsTheDecodedInstructions : Obligations.StepRunsTheDecodedInstructions := by
  intro s i e m a hi he hedge hm hmode ha
  obtain rfl : controlInstr s.ports = i := Except.ok.inj hi
  obtain rfl : syncEdgeInstr s.ports = e := Except.ok.inj he
  obtain rfl : signModeInstr s.ports = m := Except.ok.inj hm
  obtain rfl : alignInstr s.ports = a := Except.ok.inj ha
  obtain ⟨edge, hsel₁⟩ := exec_decodeSyncEdge hedge s.takePorts
  obtain ⟨mode, hsel₂⟩ := exec_decodeSignMode hmode (s.takePorts.selectSyncEdge edge)
  have hsel₃ := exec_decodeAlign s.ports.cfgAlign ((s.takePorts.selectSyncEdge edge).selectSignMode mode)
  have hconfigure : configure s.ports s.takePorts =
      .next (((s.takePorts.selectSyncEdge edge).selectSignMode mode).selectAlign s.ports.cfgAlign) := by
    rw [configure, syncEdgeInstr, hsel₁, andThen_next, signModeInstr, hsel₂, andThen_next, alignInstr, hsel₃]
  exact ⟨_, _, _, hsel₁, hsel₂, hsel₃, rfl, step_eq_exec_controlInstr hconfigure,
    fun t ht => frame_instr_keeps_settled (exec_controlInstr_settled ht)⟩

end Sys2Proof.Machine
end

section
/-! PROOFS, family 10_state.md, part 3: the invariant. -/

namespace Sys2Proof.Machine

/-! ## The buffers (R18, R57) -/

theorem setWidth_ofBool_toNat_lt (b : Bool) : ((BitVec.ofBool b).setWidth 19).toNat < 2 ^ 1 := by
  cases b <;> decide

theorem shiftIn_toNat (acc : Accumulator) (b : Bool) :
    (shiftIn acc b).toNat = (acc.toNat % 2 ^ 18) <<< 1 ||| b.toNat := by
  rw [shiftIn, BitVec.toNat_append, BitVec.extractLsb'_toNat, Nat.shiftRight_zero, BitVec.toNat_ofBool]

/-- R57: ACCUM's count does not wrap. -/
theorem toNat_add_one_of_lt {c : Count} (h : c < 19#5) : (c + 1#5).toNat = c.toNat + 1 := by
  bv_omega

/-- R57: a shift-in makes the used part of a buffer one bit longer. -/
theorem shiftIn_toNat_lt {acc : Accumulator} {c : Count} (hc : c < 19#5) (h : acc.toNat < 2 ^ c.toNat) (b : Bool) :
    (shiftIn acc b).toNat < 2 ^ (c + 1#5).toNat := by
  rw [toNat_add_one_of_lt hc, shiftIn_toNat]
  have hlow : acc.toNat % 2 ^ 18 ≤ acc.toNat := Nat.mod_le _ _
  have hshift : (acc.toNat % 2 ^ 18) <<< 1 < 2 ^ (c.toNat + 1) := by rw [Nat.shiftLeft_eq, pow_succ]; omega
  have hbit : b.toNat < 2 ^ (c.toNat + 1) := lt_of_lt_of_le b.toNat_lt (Nat.le_self_pow (by omega) 2)
  exact Nat.or_lt_two_pow hshift hbit

/-! ## What each register operation does to the invariant -/

theorem Regs.Inv.reset : Regs.reset.Inv := by
  constructor <;> decide

theorem Regs.Inv.clearPulses {r : Regs} (h : r.Inv) : r.clearPulses.Inv where
  cnt_le := h.cnt_le
  accData_high := h.accData_high
  accSync_high := h.accSync_high
  fill_valid := h.fill_valid
  prevSync_clear := h.prevSync_clear
  frValid_hunt := by simp
  errTrunc_hunt := by simp
  trunc_no_frame := by simp
  resync_no_frame := by simp

/-- R60, R82: END_OF_STREAM leaves HUNT at the start of a stream, and a frame in progress had no `fr_valid`. -/
theorem Regs.Inv.endOfStream {r : Regs} (h : r.Inv) : r.endOfStream.Inv where
  cnt_le := by simp
  accData_high := by simp
  accSync_high := by simp
  fill_valid := by simp
  prevSync_clear := by simp
  frValid_hunt := by simp
  errTrunc_hunt := by simp
  trunc_no_frame := by
    intro htrunc
    by_cases hhunt : r.cnt = 0#5
    · exact h.trunc_no_frame (by simpa [hhunt] using htrunc)
    · simpa using mt h.frValid_hunt hhunt
  resync_no_frame := h.resync_no_frame

theorem Regs.Inv.endStreamIf {r : Regs} (h : r.Inv) (inEos : Bool) : (r.endStreamIf inEos).Inv := by
  cases inEos
  · exact h
  · exact h.endOfStream

/-- R54: once a sample is noted, the invariant asks only for the count, the buffers and the pulses. -/
theorem Regs.Inv.notePrevious {r : Regs} (hcnt : r.cnt ≤ 19#5)
    (hdata : r.cnt ≠ 0#5 → r.accData.toNat < 2 ^ r.cnt.toNat)
    (hsync : r.cnt ≠ 0#5 → r.accSync.toNat < 2 ^ r.cnt.toNat) (hframe : r.frValid = true → r.cnt = 0#5)
    (htrunc : r.errTrunc = false) (hresync : r.errResync = true → r.frValid = false) (sync : Bool) :
    (r.notePrevious sync).Inv where
  cnt_le := hcnt
  accData_high := hdata
  accSync_high := hsync
  fill_valid := by simp
  prevSync_clear := by simp
  frValid_hunt := hframe
  errTrunc_hunt := by simp [htrunc]
  trunc_no_frame := by simp [htrunc]
  resync_no_frame := hresync

/-- R54 to R59: a sample in the form that the state selects. -/
theorem Regs.Inv.acceptSample {r : Regs} (h : r.Inv) {f : SampleForm} {edge : Bool}
    (hf : selectForm r.cnt edge = some f) (sync data : Bool) (ts : Timestamp) : (r.acceptSample f sync data ts).Inv := by
  unfold Regs.acceptSample
  cases f with
  | huntSkip =>
    have hq := h.clearPulses
    exact .notePrevious hq.cnt_le hq.accData_high hq.accSync_high hq.frValid_hunt rfl hq.resync_no_frame sync
  | start | resync =>
    exact .notePrevious (by simp) (fun _ => setWidth_ofBool_toNat_lt data) (fun _ => setWidth_ofBool_toNat_lt sync)
      (by simp) rfl (by simp) sync
  | accum =>
    obtain ⟨hfill, hlt, -⟩ := selectForm_accum.mp hf
    have hle : r.cnt + 1#5 ≤ 19#5 := by bv_omega
    exact .notePrevious hle (fun _ => shiftIn_toNat_lt hlt (h.accData_high hfill) data)
      (fun _ => shiftIn_toNat_lt hlt (h.accSync_high hfill) sync) (by simp) rfl (by simp) sync
  | complete => exact .notePrevious (by simp) (by simp) (by simp) (by simp) rfl (by simp) sync

/-- R52 keeps the registers' part of the invariant. -/
theorem Regs.Inv.edgeRegs {r q : Regs} (h : r.Inv) {p : Ports} {e : SyncEdge} (hq : edgeRegs p e r = some q) :
    q.Inv := by
  rcases edgeRegs_cases hq with ⟨-, rfl⟩ | ⟨-, -, rfl⟩ | ⟨-, -, f, hf, rfl⟩
  · exact Regs.Inv.reset
  · exact h.clearPulses.endStreamIf _
  · exact (h.acceptSample hf _ _ _).endStreamIf _

/-- Settles O39. -/
theorem resetSatisfiesTheInvariant : Obligations.ResetSatisfiesTheInvariant := ⟨Regs.Inv.reset, rfl⟩

/-- Settles O40: R52 keeps the registers' part, and the outputs are recomputed after the edge. -/
theorem stepKeepsTheInvariant : Obligations.StepKeepsTheInvariant := by
  intro s t hinv hstep
  obtain ⟨-, r, hr, rfl⟩ := step_eq_next.mp hstep
  exact ⟨hinv.regs.edgeRegs hr, afterEdge_settled _ r⟩

end Sys2Proof.Machine
end

section
/-! PROOFS, family 10_state.md, part 4: the RawFrame registers between two frames (R20, R99). -/

namespace Sys2Proof.Machine

/-! ## The RawFrame registers and the count, operation by operation -/

/-- The contents of the RawFrame registers (R20): `fr_data`, `fr_sync`, `fr_ts_start` and `fr_ts_end`. -/
def Regs.rawFrame (r : Regs) : FrameWord × FrameWord × Timestamp × Timestamp :=
  (r.frData, r.frSync, r.frTsStart, r.frTsEnd)

theorem Regs.rawFrame_eq_iff {r q : Regs} : q.rawFrame = r.rawFrame ↔
    q.frData = r.frData ∧ q.frSync = r.frSync ∧ q.frTsStart = r.frTsStart ∧ q.frTsEnd = r.frTsEnd := by
  simp [Regs.rawFrame]

@[simp] theorem Regs.endStreamIf_rawFrame (r : Regs) (inEos : Bool) :
    (r.endStreamIf inEos).rawFrame = r.rawFrame := by
  cases inEos <;> rfl

@[simp] theorem Regs.endStreamIf_frValid (r : Regs) (inEos : Bool) : (r.endStreamIf inEos).frValid = r.frValid := by
  cases inEos <;> rfl

theorem Regs.endStreamIf_cnt_le (r : Regs) (inEos : Bool) : (r.endStreamIf inEos).cnt.toNat ≤ r.cnt.toNat := by
  cases inEos <;> simp

/-- R20, R58: only COMPLETE writes the RawFrame registers and raises `fr_valid`. -/
theorem Regs.acceptSample_rawFrame {f : SampleForm} (hf : f ≠ .complete) (r : Regs) (sync data : Bool)
    (ts : Timestamp) :
    (r.acceptSample f sync data ts).frValid = false ∧ (r.acceptSample f sync data ts).rawFrame = r.rawFrame := by
  cases f with
  | complete => exact absurd rfl hf
  | huntSkip | start | accum | resync => exact ⟨rfl, rfl⟩

/-- A sample counts at most one bit. -/
theorem Regs.acceptSample_cnt_le (r : Regs) (f : SampleForm) (sync data : Bool) (ts : Timestamp) :
    (r.acceptSample f sync data ts).cnt.toNat ≤ r.cnt.toNat + 1 := by
  cases f with
  | accum => exact (BitVec.toNat_add r.cnt 1#5).trans_le (Nat.mod_le _ _)
  | huntSkip | start | complete | resync => simp [Regs.acceptSample]

/-! ## Steps and runs -/

/-- R99, one step: without reset and with fewer than 19 bits collected, no frame is delivered and the last one stays. -/
theorem step_keeps_rawFrame {s t : State} (h : step s = .next t) (hrst : s.ports.rst = false)
    (hcnt : s.regs.cnt ≠ 19#5) :
    t.regs.frValid = false ∧ t.regs.rawFrame = s.regs.rawFrame ∧ t.regs.cnt.toNat ≤ s.regs.cnt.toNat + 1 := by
  obtain ⟨-, r, hr, rfl⟩ := step_eq_next.mp h
  rcases edgeRegs_cases hr with ⟨hreset, -⟩ | ⟨-, -, rfl⟩ | ⟨-, -, f, hf, rfl⟩
  · simp [hrst] at hreset
  · exact ⟨Regs.endStreamIf_frValid .., Regs.endStreamIf_rawFrame ..,
      (Regs.endStreamIf_cnt_le ..).trans (Nat.le_succ _)⟩
  · have hform : f ≠ .complete := by
      rintro rfl
      obtain ⟨hnineteen, -⟩ := selectForm_complete.mp hf
      exact hcnt hnineteen
    obtain ⟨hvalid, hframe⟩ := s.regs.acceptSample_rawFrame hform s.ports.inSync s.ports.inData s.ports.inTs
    exact ⟨by simpa using hvalid, by simpa using hframe,
      (Regs.endStreamIf_cnt_le _ _).trans (Regs.acceptSample_cnt_le ..)⟩

/-- A run of `k + 1` steps is a step and a run of `k`. -/
theorem trace_succ_eq_some {k : Nat} {s : State} {ts : List State} :
    trace (k + 1) s = some ts ↔ ∃ t us, step s = .next t ∧ trace k t = some us ∧ ts = t :: us := by
  cases h : step s <;> simp [trace, h, eq_comm]

/-- R99, a run: as long as the count cannot reach the 20th bit, each step keeps the frame. -/
theorem trace_keeps_rawFrame {k : Nat} {s : State} {ts : List State} (hcnt : s.regs.cnt.toNat + k ≤ 19)
    (hlen : k ≤ s.inputs.length) (hrst : ∀ p ∈ s.inputs.take k, p.rst = false) (h : trace k s = some ts) :
    ∀ t ∈ ts, t.regs.frValid = false ∧ t.regs.rawFrame = s.regs.rawFrame := by
  induction k generalizing s ts with
  | zero =>
    obtain rfl : [] = ts := by simpa [trace] using h
    simp
  | succ k ih =>
    obtain ⟨t, us, hstep, hrun, rfl⟩ := trace_succ_eq_some.mp h
    obtain ⟨p, rest, hinputs⟩ := List.exists_cons_of_length_pos (Nat.zero_lt_of_lt hlen)
    have hports : s.ports = p := by simp [State.ports, hinputs]
    have hnext : t.inputs = rest := by
      obtain ⟨-, r, -, rfl⟩ := step_eq_next.mp hstep
      simp [hinputs]
    rw [hinputs, List.take_succ_cons, List.forall_mem_cons] at hrst
    obtain ⟨hp, hrest⟩ := hrst
    obtain ⟨hvalid, hframe, hcount⟩ := step_keeps_rawFrame hstep (hports ▸ hp) (by bv_omega)
    have htail : ∀ u ∈ us, u.regs.frValid = false ∧ u.regs.rawFrame = t.regs.rawFrame :=
      ih (by omega) (by simpa [hnext, hinputs] using hlen) (hnext ▸ hrest) hrun
    exact List.forall_mem_cons.mpr ⟨⟨hvalid, hframe⟩, hframe ▸ htail⟩

/-- Settles O49: 19 steps from HUNT cannot complete a frame. -/
theorem rawFrameIsStableForTwentyCycles : Obligations.RawFrameIsStableForTwentyCycles := by
  intro k s ts hk _ hcnt hlen hrst hrun t ht
  obtain ⟨hvalid, hframe⟩ := trace_keeps_rawFrame (by simpa [hcnt] using hk) hlen hrst hrun t ht
  exact ⟨hvalid, Regs.rawFrame_eq_iff.mp hframe⟩

end Sys2Proof.Machine
end

section
/-! PROOFS, family 20_memory.md: the decoder as a function of the RawFrame registers and the configuration. -/

namespace Sys2Proof.Machine

/-- R22, R104: a step leaves the outputs that follow from the registers and the configuration it leaves, whatever the
outputs were before it. -/
theorem step_settled {s t : State} (h : step s = .next t) : t.Settled := by
  obtain ⟨-, r, -, rfl⟩ := step_eq_next.mp h
  exact afterEdge_settled _ r

/-- R64: settled outputs depend on nothing but `fr_valid`, `fr_data` and the configuration. -/
theorem State.Settled.dec_eq {s t : State} (hs : s.Settled) (ht : t.Settled)
    (hvalid : s.regs.frValid = t.regs.frValid) (hdata : s.regs.frData = t.regs.frData) (hcfg : s.cfg = t.cfg) :
    s.dec = t.dec :=
  calc s.dec = decodeOutputs s.regs.frValid s.regs.frData s.cfg := hs
    _ = decodeOutputs t.regs.frValid t.regs.frData t.cfg := by rw [hvalid, hdata, hcfg]
    _ = t.dec := ht.symm

/-- Settles O13: every step leaves settled outputs, which the decoder's row keeps and which are equal where the decoder's
inputs are. -/
theorem decodingIsPure : Obligations.DecodingIsPure := by
  refine ⟨fun s t hstep => ?_, fun s t s' t' hstep hstep' hvalid hdata hcfg => ?_⟩
  · exact frame_instr_keeps_settled (step_settled hstep)
  · exact (step_settled hstep).dec_eq (step_settled hstep') hvalid hdata hcfg

end Sys2Proof.Machine
end

section
/-! PROOFS, family 30_encoding.md: frame words, their rows, and form rows that the state does not select. -/

namespace Sys2Proof

/-! ## The decoder by header -/

/-- R37: a word is its header, its position field and its parity bit. -/
theorem frameWord_fields {n m : Nat} (w : BitVec (n + m + 1)) :
    w.extractLsb' (m + 1) n ++ w.extractLsb' 1 m ++ BitVec.ofBool (w.getLsbD 0) = w := by
  rw [BitVec.extractLsb'_append_extractLsb'_eq_extractLsb' (Nat.add_comm m 1), BitVec.append_ofBool]
  exact BitVec.concat_extractLsb'_getLsb

/-- The header's top bit is `W[19]`. -/
theorem header_getLsbD_two (w : FrameWord) : (w.extractLsb' 17 3).getLsbD 2 = w.getLsbD 19 := by
  simp

/-- R38, R39, R41: `W[19] = 1`, or one of the four other headers. -/
theorem header_cases (w : FrameWord) : w.getLsbD 19 = true ∨ w.extractLsb' 17 3 = 1#3 ∨
    w.extractLsb' 17 3 = 0#3 ∨ w.extractLsb' 17 3 = 2#3 ∨ w.extractLsb' 17 3 = 3#3 := by
  rw [← header_getLsbD_two]
  generalize w.extractLsb' 17 3 = header
  revert header; decide

theorem topBit_of_header {w : FrameWord} {header : BitVec 3} (h : w.extractLsb' 17 3 = header) :
    w.getLsbD 19 = header.getLsbD 2 := by
  rw [← header_getLsbD_two, h]

theorem decodeFrame_enh18 {w : FrameWord} (h : w.getLsbD 19 = true) :
    decodeFrame w = .enh18 (w.extractLsb' 1 18) (w.getLsbD 0) := by
  rw [decodeFrame, classify_enh18 h]

theorem decodeFrame_std16 {w : FrameWord} (h : w.extractLsb' 17 3 = 1#3) :
    decodeFrame w = .std16 (w.extractLsb' 1 16) (w.getLsbD 0) := by
  rw [decodeFrame, classify_std16 (topBit_of_header h) h]

/-- R41: the three Unknown rows, by header. -/
theorem decodeFrame_unknown {w : FrameWord} (htop : w.getLsbD 19 = false) (hstd : w.extractLsb' 17 3 ≠ 1#3) :
    decodeFrame w = if w.extractLsb' 17 3 = 0#3 then .unk000 (w.extractLsb' 0 17)
      else if w.extractLsb' 17 3 = 2#3 then .unk010 (w.extractLsb' 0 17) else .unk011 (w.extractLsb' 0 17) := by
  rw [decodeFrame, classify_unknown htop hstd]

theorem decodeFrame_unk000 {w : FrameWord} (h : w.extractLsb' 17 3 = 0#3) :
    decodeFrame w = .unk000 (w.extractLsb' 0 17) := by
  rw [decodeFrame_unknown (topBit_of_header h) (by simp [h]), if_pos h]

theorem decodeFrame_unk010 {w : FrameWord} (h : w.extractLsb' 17 3 = 2#3) :
    decodeFrame w = .unk010 (w.extractLsb' 0 17) := by
  rw [decodeFrame_unknown (topBit_of_header h) (by simp [h]), if_neg (by simp [h]), if_pos h]

theorem decodeFrame_unk011 {w : FrameWord} (h : w.extractLsb' 17 3 = 3#3) :
    decodeFrame w = .unk011 (w.extractLsb' 0 17) := by
  rw [decodeFrame_unknown (topBit_of_header h) (by simp [h]), if_neg (by simp [h]), if_neg (by simp [h])]

/-! ## The encoder on the fields of a word -/

theorem std16_word_of_fields {w : FrameWord} (h : w.extractLsb' 17 3 = 1#3) :
    1#3 ++ w.extractLsb' 1 16 ++ BitVec.ofBool (w.getLsbD 0) = w := by
  rw [← h]; exact frameWord_fields (n := 3) (m := 16) w

theorem enh18_word_of_fields {w : FrameWord} (h : w.getLsbD 19 = true) :
    1#1 ++ w.extractLsb' 1 18 ++ BitVec.ofBool (w.getLsbD 0) = w := by
  have hheader : w.extractLsb' 19 1 = 1#1 := by rwa [BitVec.getLsbD_eq_extractLsb', beq_iff_eq] at h
  rw [← hheader]; exact frameWord_fields (n := 1) (m := 18) w

theorem encodeUnknown_of_fields {w : FrameWord} {header : BitVec 3} (h : w.extractLsb' 17 3 = header) :
    encodeUnknown header (w.extractLsb' 0 17) = w := by
  rw [← h]; exact BitVec.extractLsb'_append_extractLsb' (w := 3) (len := 17)

/-- Settles O2: in each row, the encoder puts the word together again from the header and the fields that the decoder
reads. -/
theorem encodeInvertsFrameDecode : Obligations.EncodeInvertsFrameDecode := by
  intro w
  rcases header_cases w with h | h | h | h | h
  · rw [decodeFrame_enh18 h]; exact congrArg Code.frame (enh18_word_of_fields h)
  · rw [decodeFrame_std16 h]; exact congrArg Code.frame (std16_word_of_fields h)
  · rw [decodeFrame_unk000 h]; exact congrArg Code.frame (encodeUnknown_of_fields h)
  · rw [decodeFrame_unk010 h]; exact congrArg Code.frame (encodeUnknown_of_fields h)
  · rw [decodeFrame_unk011 h]; exact congrArg Code.frame (encodeUnknown_of_fields h)

/-! ## The rows of the table as conditions on the header -/

/-- A mask of the top `n` bits compares those bits. -/
theorem and_topBitsMask_beq {n k : Nat} (w : BitVec (n + k)) (v : BitVec n) :
    (w &&& (BitVec.allOnes n ++ 0#k) == v ++ 0#k) = (w.extractLsb' k n == v) := by
  have hmask : w &&& (BitVec.allOnes n ++ 0#k) = w.extractLsb' k n ++ 0#k :=
    calc w &&& (BitVec.allOnes n ++ 0#k)
      _ = (w.extractLsb' k n ++ w.extractLsb' 0 k) &&& (BitVec.allOnes n ++ 0#k) := by
        rw [BitVec.extractLsb'_append_extractLsb']
      _ = w.extractLsb' k n ++ 0#k := by rw [BitVec.and_append, BitVec.and_allOnes, BitVec.and_zero]
  rw [hmask, Bool.eq_iff_iff, beq_iff_eq, beq_iff_eq, BitVec.append_left_inj]

/-- R39: the row of ENH18 is `W[19] = 1`. -/
theorem inRow_topMask (w : FrameWord) : inRow w 0x80000#20 0x80000#20 = w.getLsbD 19 :=
  calc inRow w 0x80000#20 0x80000#20
    _ = (w.extractLsb' 19 1 == 1#1) := and_topBitsMask_beq (n := 1) (k := 19) w 1#1
    _ = w.getLsbD 19 := (BitVec.getLsbD_eq_extractLsb' w 19).symm

/-- R38, R41: a row of the mask `0xE0000` is a value of the header. -/
theorem inRow_headerMask (w : FrameWord) (header : BitVec 3) :
    inRow w 0xE0000#20 (header ++ 0#17) = (w.extractLsb' 17 3 == header) :=
  and_topBitsMask_beq (n := 3) (k := 17) w header

theorem inRow_std16 (w : FrameWord) : inRow w 0xE0000#20 0x20000#20 = (w.extractLsb' 17 3 == 1#3) :=
  inRow_headerMask w 1#3

theorem inRow_unk000 (w : FrameWord) : inRow w 0xE0000#20 0x00000#20 = (w.extractLsb' 17 3 == 0#3) :=
  inRow_headerMask w 0#3

theorem inRow_unk010 (w : FrameWord) : inRow w 0xE0000#20 0x40000#20 = (w.extractLsb' 17 3 == 2#3) :=
  inRow_headerMask w 2#3

theorem inRow_unk011 (w : FrameWord) : inRow w 0xE0000#20 0x60000#20 = (w.extractLsb' 17 3 == 3#3) :=
  inRow_headerMask w 3#3

/-- R39, R41: a word with `W[19] = 1` has none of the headers `0--`. -/
theorem header_beq_of_topBit {w : FrameWord} {header : BitVec 3} (h : w.getLsbD 19 = true)
    (hheader : header.getLsbD 2 = false) : (w.extractLsb' 17 3 == header) = false :=
  beq_false_of_ne fun heq => Bool.false_ne_true (hheader.symm.trans ((topBit_of_header heq).symm.trans h))

/-- Settles O3: STD16's header has `W[19] = 0`, so at most one of the two tests answers. -/
theorem frameHeadersNeverOverlap : Obligations.FrameHeadersNeverOverlap := by
  intro w
  rw [inRow_std16, inRow_topMask]
  cases htop : w.getLsbD 19 with
  | true => simp [classify_enh18 htop, header_beq_of_topBit htop]
  | false =>
    by_cases hstd : w.extractLsb' 17 3 = 1#3
    · simp [classify_std16 htop hstd, hstd]
    · simp [classify_unknown htop hstd, hstd]

/-- Settles O4: the five rows ask for `W[19] = 1` or for one of the four headers `0--`, and exclude each other. -/
theorem everyFrameWordHasOneRow : Obligations.EveryFrameWordHasOneRow := by
  intro w
  simp only [List.filter_cons, inRow_std16, inRow_topMask, inRow_unk000, inRow_unk010, inRow_unk011]
  rcases header_cases w with h | h | h | h | h
  · simp [decodeFrame_enh18 h, h, header_beq_of_topBit h, Instr.row]
  · rw [decodeFrame_std16 h, topBit_of_header h, h]; rfl
  · rw [decodeFrame_unk000 h, topBit_of_header h, h]; rfl
  · rw [decodeFrame_unk010 h, topBit_of_header h, h]; rfl
  · rw [decodeFrame_unk011 h, topBit_of_header h, h]; rfl

end Sys2Proof

namespace Sys2Proof.Machine

/-! ## The form rows -/

/-- R45: the row of a form is the sample run in that form. -/
theorem exec_form_instr (f : SampleForm) (inEos sync data : Bool) (ts : Timestamp) (s : State) :
    exec (f.instr inEos sync data ts) s = runForm f inEos sync data ts s := by
  cases f <;> rfl

/-- R45, R54: with `cnt` in 0..19 every sample has a form. -/
theorem State.exists_form {s : State} (h : s.regs.cnt ≤ 19#5) (sync : Bool) : ∃ g, s.form sync = some g :=
  Option.ne_none_iff_exists'.mp fun hnone => BitVec.not_lt.mpr h (selectForm_none.mp hnone)

/-- Log 6: a form that the state does not select. -/
theorem runForm_eq_refused {s : State} {f g : SampleForm} {sync : Bool} (hform : s.form sync = some g) (hne : g ≠ f)
    (inEos data : Bool) (ts : Timestamp) : runForm f inEos sync data ts s = .refused .formNotSelected := by
  simp [runForm, hform, hne]

/-- Settles O29: the state selects some form, and it is another one. -/
theorem unselectedFormIsRefused : Obligations.UnselectedFormIsRefused := by
  intro s f inEos sync data ts hcnt hother
  obtain ⟨g, hg⟩ := s.exists_form hcnt sync
  have hne : g ≠ f := fun heq => hother (heq ▸ hg)
  rw [exec_form_instr, runForm_eq_refused hg hne]

end Sys2Proof.Machine
end

section
/-! PROOFS, family 40_assembler.md, part 1: timestamps are copied and never read (R63). -/

namespace Sys2Proof.Machine

/-! ## Registers that differ in their timestamps alone -/

/-- The relation written as an update, the form in which the register operations carry it along. -/
theorem Regs.sameButTimestamps_iff {r q : Regs} : r.SameButTimestamps q ↔
    ∃ start frStart frEnd, { q with tsStart := start, frTsStart := frStart, frTsEnd := frEnd } = r := by
  constructor
  · exact fun h => ⟨_, _, _, h⟩
  · rintro ⟨_, _, _, rfl⟩; rfl

theorem Regs.SameButTimestamps.refl (r : Regs) : r.SameButTimestamps r := rfl

theorem Regs.SameButTimestamps.clearPulses {r q : Regs} (h : r.SameButTimestamps q) :
    r.clearPulses.SameButTimestamps q.clearPulses := by
  obtain ⟨_, _, _, rfl⟩ := Regs.sameButTimestamps_iff.mp h
  rfl

theorem Regs.SameButTimestamps.endStreamIf {r q : Regs} (h : r.SameButTimestamps q) (inEos : Bool) :
    (r.endStreamIf inEos).SameButTimestamps (q.endStreamIf inEos) := by
  obtain ⟨_, _, _, rfl⟩ := Regs.sameButTimestamps_iff.mp h
  cases inEos <;> rfl

/-- R63: a form writes the sample's timestamp into timestamp registers alone. -/
theorem Regs.SameButTimestamps.acceptSample {r q : Regs} (h : r.SameButTimestamps q) (f : SampleForm)
    (sync data : Bool) (ts ts' : Timestamp) :
    (r.acceptSample f sync data ts).SameButTimestamps (q.acceptSample f sync data ts') := by
  obtain ⟨_, _, _, rfl⟩ := Regs.sameButTimestamps_iff.mp h
  cases f <;> rfl

/-! ## Cycles and steps -/

/-- The two cycles write alike, or neither sample has a form. -/
theorem Regs.SameButTimestamps.edgeRegs {r q : Regs} (h : r.SameButTimestamps q) (p : Ports) (ts : Timestamp)
    (e : SyncEdge) :
    Option.Rel Regs.SameButTimestamps (Machine.edgeRegs { p with inTs := ts } e r) (Machine.edgeRegs p e q) := by
  have hform : selectForm r.cnt (startEdge r.prevValid r.prevSync p.inSync e) =
      selectForm q.cnt (startEdge q.prevValid q.prevSync p.inSync e) := by
    obtain ⟨_, _, _, rfl⟩ := Regs.sameButTimestamps_iff.mp h
    rfl
  unfold Machine.edgeRegs
  split_ifs
  · exact .some (.refl _)
  · rw [hform]
    cases selectForm q.cnt (startEdge q.prevValid q.prevSync p.inSync e) with
    | none => exact .none
    | some f => exact .some ((h.acceptSample f ..).endStreamIf _)
  · exact .some (h.clearPulses.endStreamIf _)

/-- The cycle's ports differ in the timestamp alone, whether the cycle is listed or free. -/
theorem State.SameButTimestamps.ports {s t : State} (h : s.SameButTimestamps t) :
    Ports.SameButTimestamp s.ports t.ports := by
  have hinputs := h.inputs
  unfold State.ports
  rw [h.clock]
  generalize s.inputs = listed, t.inputs = listed' at hinputs ⊢
  cases hinputs with
  | nil => exact rfl
  | cons hport _ => exact hport

theorem State.SameButTimestamps.stepped {s t : State} (h : s.SameButTimestamps t) {r q : Regs}
    (hregs : r.SameButTimestamps q) : (s.stepped r).SameButTimestamps (t.stepped q) := by
  have hcfg : portsCfg t.ports = portsCfg s.ports := (congrArg portsCfg h.ports :)
  have hvalid : q.frValid = r.frValid := (congrArg Regs.frValid hregs :)
  have hdata : q.frData = r.frData := (congrArg Regs.frData hregs :)
  exact
    { regs := hregs
      cfg := hcfg.symm
      dec := by simp only [State.stepped_dec, hvalid, hdata, hcfg]
      clock := congrArg (· + 1) h.clock
      inputs := by simpa using List.forall₂_drop 1 h.inputs }

/-- Settles O51: both cycles are refused alike, or write registers related by `edgeRegs`, or fault alike. -/
theorem timestampsNeverDecide : Obligations.TimestampsNeverDecide := by
  intro s t h
  have hlegal : t.ports.legalConfig = s.ports.legalConfig := (congrArg Ports.legalConfig h.ports :)
  have hedge : t.ports.cfgSyncEdge = s.ports.cfgSyncEdge := (congrArg Ports.cfgSyncEdge h.ports :)
  have hcfg : portsCfg t.ports = portsCfg s.ports := (congrArg portsCfg h.ports :)
  cases hconfig : s.ports.legalConfig with
  | false =>
    rw [step_reserved hconfig, step_reserved (hlegal.trans hconfig), hedge]
    exact rfl
  | true =>
    have hregs : Option.Rel Regs.SameButTimestamps (edgeRegs s.ports (portsCfg s.ports).syncEdge s.regs)
        (edgeRegs t.ports (portsCfg s.ports).syncEdge t.regs) :=
      h.ports ▸ h.regs.edgeRegs t.ports s.ports.inTs (portsCfg s.ports).syncEdge
    rw [step_legal hconfig, step_legal (hlegal.trans hconfig), hcfg]
    generalize edgeRegs s.ports _ s.regs = written, edgeRegs t.ports _ t.regs = written' at hregs ⊢
    cases hregs with
    | none => exact rfl
    | some hwritten => exact h.stepped hwritten

end Sys2Proof.Machine
end

section
/-! PROOFS, family 40_assembler.md, part 2: the edge function, the SAMPLE forms and the control words. -/

namespace Sys2Proof.Machine

/-! ## A sample in the form that the state selects -/

/-- R54: SAMPLE and SAMPLE_EOS write the selected form, then the end of the stream. -/
theorem runSample_selected {s : State} {f : SampleForm} {sync : Bool} (h : s.form sync = some f) (inEos data : Bool)
    (ts : Timestamp) : runSample inEos sync data ts s =
      .next (s.afterEdge ((s.regs.acceptSample f sync data ts).endStreamIf inEos)) :=
  runSample_eq_next.mpr ⟨f, h, rfl⟩

/-- R45: so does the form's own row. -/
theorem runForm_selected {s : State} {f : SampleForm} {sync : Bool} (h : s.form sync = some f) (inEos data : Bool)
    (ts : Timestamp) : runForm f inEos sync data ts s =
      .next (s.afterEdge ((s.regs.acceptSample f sync data ts).endStreamIf inEos)) :=
  runForm_eq_next.mpr ⟨h, rfl⟩

/-- R16: HUNT is `cnt = 0`, and every other count is 1 or more. -/
theorem one_le_iff_ne_zero {c : Count} : 1#5 ≤ c ↔ c ≠ 0#5 := by
  constructor <;> intro h <;> bv_omega

theorem le_eighteen_iff_lt {c : Count} : c ≤ 18#5 ↔ c < 19#5 := by
  constructor <;> intro h <;> bv_omega

/-! ## The edge function (R49, R50) -/

theorem startEdge_rising (prevValid prevSync sync : Bool) : startEdge prevValid prevSync sync .rising =
    (if prevValid then decide (prevSync = false ∧ sync = true) else decide (sync = true)) := by
  revert prevValid prevSync sync; decide

theorem startEdge_falling (prevValid prevSync sync : Bool) : startEdge prevValid prevSync sync .falling =
    (if prevValid then decide (prevSync = true ∧ sync = false) else decide (sync = false)) := by
  revert prevValid prevSync sync; decide

theorem startEdge_both (prevValid prevSync sync : Bool) : startEdge prevValid prevSync sync .both =
    (if prevValid then decide (prevSync ≠ sync) else true) := by
  revert prevValid prevSync sync; decide

/-- R54 in HUNT: the sample starts a frame exactly where it is a frame-start edge. -/
theorem exec_sample_in_hunt {s : State} (h : s.regs.cnt = 0#5) (sync data : Bool) (ts : Timestamp) :
    ∃ t, exec (.sample sync data ts) s = .next t ∧ t.regs.cnt = if s.isEdge sync then 1#5 else 0#5 := by
  cases hedge : s.isEdge sync with
  | true => exact ⟨_, runSample_selected (selectForm_start.mpr ⟨h, hedge⟩) false data ts, rfl⟩
  | false => exact ⟨_, runSample_selected (selectForm_huntSkip.mpr ⟨h, hedge⟩) false data ts, h⟩

/-- Settles O22: the rows by their meanings, the tables, and the effect on a sample in HUNT under each convention. -/
theorem edgeRowsSelectTheEdgeFunction : Obligations.EdgeRowsSelectTheEdgeFunction := by
  intro s sync data ts
  refine ⟨rfl, rfl, rfl, rfl, ?_, ?_, ?_, fun hcnt => ⟨?_, ?_, ?_⟩⟩
  · exact startEdge_rising ..
  · exact startEdge_falling ..
  · exact startEdge_both ..
  · exact exec_sample_in_hunt (s := { s with cfg := { s.cfg with syncEdge := .rising } }) hcnt sync data ts
  · exact exec_sample_in_hunt (s := { s with cfg := { s.cfg with syncEdge := .falling } }) hcnt sync data ts
  · exact exec_sample_in_hunt (s := { s with cfg := { s.cfg with syncEdge := .both } }) hcnt sync data ts

/-! ## The five forms (R55 to R59) -/

/-- Settles O24. -/
theorem huntSkipDiscardsTheSample : Obligations.HuntSkipDiscardsTheSample := by
  intro s inEos sync data ts hcnt hedge
  exact runForm_selected (selectForm_huntSkip.mpr ⟨hcnt, hedge⟩) inEos data ts

/-- Settles O25. -/
theorem startBeginsAFrame : Obligations.StartBeginsAFrame := by
  intro s inEos sync data ts hcnt hedge
  exact runForm_selected (selectForm_start.mpr ⟨hcnt, hedge⟩) inEos data ts

/-- R57: the count as the number one more. -/
theorem count_add_one (c : Count) : c + 1#5 = BitVec.ofNat 5 (c.toNat + 1) := by
  bv_omega

/-- Settles O26. -/
theorem accumShiftsTheBitsIn : Obligations.AccumShiftsTheBitsIn := by
  intro s inEos sync data ts hone heighteen hedge
  have hform : s.form sync = some .accum :=
    selectForm_accum.mpr ⟨one_le_iff_ne_zero.mp hone, le_eighteen_iff_lt.mp heighteen, hedge⟩
  rw [← count_add_one]
  exact runForm_selected hform inEos data ts

/-- Settles O28. -/
theorem resyncRestartsTheFrame : Obligations.ResyncRestartsTheFrame := by
  intro s inEos sync data ts hone hnineteen hedge
  exact runForm_selected (selectForm_resync.mpr ⟨one_le_iff_ne_zero.mp hone, hnineteen, hedge⟩) inEos data ts

/-- R58: only RESET and COMPLETE write the RawFrame registers or present a frame. -/
theorem step_keeps_rawFrame_of_not_complete {s t : State} (h : step s = .next t) (hrst : s.ports.rst = false)
    (hnot : s.regs.cnt ≠ 19#5 ∨ s.ports.inValid = false ∨
      startEdge s.regs.prevValid s.regs.prevSync s.ports.inSync t.cfg.syncEdge = true) :
    t.regs.frValid = false ∧ t.regs.rawFrame = s.regs.rawFrame := by
  obtain ⟨-, r, hr, rfl⟩ := step_eq_next.mp h
  rcases edgeRegs_cases hr with ⟨hreset, -⟩ | ⟨-, -, rfl⟩ | ⟨-, hvalid, f, hf, rfl⟩
  · simp [hrst] at hreset
  · exact ⟨Regs.endStreamIf_frValid .., Regs.endStreamIf_rawFrame ..⟩
  · have hform : f ≠ .complete := by
      rintro rfl
      obtain ⟨hcnt, hedge⟩ := selectForm_complete.mp hf
      simp [hcnt, hvalid, hedge] at hnot
    obtain ⟨hpulse, hframe⟩ := s.regs.acceptSample_rawFrame hform s.ports.inSync s.ports.inData s.ports.inTs
    exact ⟨by simpa using hpulse, by simpa using hframe⟩

/-- Settles O27. -/
theorem completeDeliversTheRawFrame : Obligations.CompleteDeliversTheRawFrame := by
  refine ⟨fun s inEos sync data ts hcnt hedge => ?_, fun s t hstep hrst hnot => ?_⟩
  · exact runForm_selected (selectForm_complete.mpr ⟨hcnt, hedge⟩) inEos data ts
  · obtain ⟨hvalid, hframe⟩ := step_keeps_rawFrame_of_not_complete hstep hrst hnot
    exact ⟨hvalid, Regs.rawFrame_eq_iff.mp hframe⟩

/-! ## SAMPLE and SAMPLE_EOS (R54, R61) -/

/-- R52, R54: what every form leaves in the edge detector's memory and in the pulses. -/
theorem Regs.acceptSample_pulses (r : Regs) (f : SampleForm) (sync data : Bool) (ts : Timestamp) :
    (r.acceptSample f sync data ts).prevValid = true ∧ (r.acceptSample f sync data ts).prevSync = sync ∧
    (r.acceptSample f sync data ts).errResync = decide (f = .resync) ∧
    (r.acceptSample f sync data ts).errTrunc = false ∧
    (r.acceptSample f sync data ts).frValid = decide (f = .complete) := by
  cases f <;> exact ⟨rfl, rfl, rfl, rfl, rfl⟩

theorem eq_form_iff {s : State} {f g : SampleForm} {sync : Bool} (h : s.form sync = some f) :
    f = g ↔ selectForm s.regs.cnt (s.isEdge sync) = some g := by
  rw [← Option.some_inj, ← h, State.form]

/-- Settles O32: the form is the selected one, and each condition is the one `selectForm` has for it. -/
theorem sampleTakesExactlyOneForm : Obligations.SampleTakesExactlyOneForm := by
  intro s sync data ts hcnt
  obtain ⟨f, hf⟩ := s.exists_form hcnt sync
  obtain ⟨hvalid, hsync, hresync, htrunc, hframe⟩ := s.regs.acceptSample_pulses f sync data ts
  refine ⟨f, s.afterEdge (s.regs.acceptSample f sync data ts), runSample_selected hf false data ts, ?_,
    hvalid, hsync, hresync, htrunc, hframe, ?_, ?_, ?_, ?_, ?_⟩
  · rw [exec_form_instr]
    exact runForm_selected hf false data ts
  · rw [eq_form_iff hf, selectForm_huntSkip]
  · rw [eq_form_iff hf, selectForm_start]
  · rw [eq_form_iff hf, selectForm_accum, one_le_iff_ne_zero, le_eighteen_iff_lt]
  · rw [eq_form_iff hf, selectForm_complete]
  · rw [eq_form_iff hf, selectForm_resync, one_le_iff_ne_zero]

/-- R60, R82: with `err_trunc` clear before it, END_OF_STREAM signals exactly a frame in progress. -/
theorem Regs.endOfStream_of_errTrunc_clear {r : Regs} (h : r.errTrunc = false) : r.endOfStream =
    { r with errTrunc := decide (r.cnt ≠ 0#5), cnt := 0#5, prevValid := false, prevSync := false } := by
  by_cases hcnt : r.cnt = 0#5 <;> simp [Regs.endOfStream, hcnt, h]

/-- Settles O34: the decoder's outputs do not read what END_OF_STREAM writes. -/
theorem sampleEosEndsTheStreamAfterItsSample : Obligations.SampleEosEndsTheStreamAfterItsSample := by
  intro s sync data ts hcnt
  obtain ⟨f, hf⟩ := s.exists_form hcnt sync
  obtain ⟨-, -, -, htrunc, -⟩ := s.regs.acceptSample_pulses f sync data ts
  refine ⟨s.afterEdge (s.regs.acceptSample f sync data ts), runSample_selected hf false data ts, ?_⟩
  have heos := runSample_selected hf true data ts
  rw [Regs.endStreamIf_true, Regs.endOfStream_of_errTrunc_clear htrunc] at heos
  exact heos

/-! ## IDLE and EOS (R53, R60) -/

/-- R70: of the decoder's outputs `fr_valid` gates two and decides no other. -/
theorem decodeOutputs_without_frame (v : Bool) (w : FrameWord) (cfg : Cfg) :
    decodeOutputs false w cfg = { decodeOutputs v w cfg with valid := false, unknownHeader := false } := by
  cases h : classify w with
  | std16 => rw [decodeOutputs_std16 h, decodeOutputs_std16 h]; rfl
  | enh18 => rw [decodeOutputs_enh18 h, decodeOutputs_enh18 h]; rfl
  | unknown => rw [decodeOutputs_unknown h, decodeOutputs_unknown h]; rfl

/-- Settles O31. -/
theorem idleOnlyClearsThePulses : Obligations.IdleOnlyClearsThePulses := by
  intro s
  have hdec := decodeOutputs_without_frame s.regs.frValid s.regs.frData s.cfg
  refine ⟨decodeOutputs false s.regs.frData s.cfg, rfl, ?_, ?_, fun hsettled => ?_⟩
  · rw [hdec]
  · rw [hdec]
  · rw [hdec, ← hsettled]

/-- Settles O33: END_OF_STREAM after the pulses' clear. -/
theorem eosEndsTheStream : Obligations.EosEndsTheStream := by
  intro s
  have hregs := Regs.endOfStream_of_errTrunc_clear (r := s.regs.clearPulses) rfl
  exact congrArg (fun r => Host.Outcome.next (s.afterEdge r)) hregs

/-! ## The step function (R52) -/

/-- R12: the convention of a cycle is the one its port levels encode. -/
theorem portsCfg_syncEdge {p : Ports} {e : SyncEdge} (h : p.cfgSyncEdge = SyncEdge.bits e) :
    (portsCfg p).syncEdge = e := by
  unfold portsCfg
  rw [h]
  cases e <;> rfl

/-- R52's branches for a sample, in the rule's order, are the writes of the selected form. -/
theorem Regs.applyForm_selected {r : Regs} {f : SampleForm} {edge : Bool} (h : selectForm r.cnt edge = some f)
    (q : Regs) (sync data : Bool) (ts : Timestamp) : q.applyForm f sync data ts =
      if r.cnt = 0#5 ∧ edge = false then q
      else if r.cnt = 0#5 ∧ edge = true then q.beginFrame sync data ts
      else if edge = true then { q.beginFrame sync data ts with errResync := true }
      else if r.cnt = 19#5 then q.completeFrame sync data ts
      else q.accumulate sync data := by
  cases f with
  | huntSkip =>
    obtain ⟨hcnt, rfl⟩ := selectForm_huntSkip.mp h
    simp [hcnt]
  | start =>
    obtain ⟨hcnt, rfl⟩ := selectForm_start.mp h
    simp [hcnt]
  | accum =>
    obtain ⟨hfill, hlt, rfl⟩ := selectForm_accum.mp h
    have hne : r.cnt ≠ 19#5 := by bv_omega
    simp [hfill, hne]
  | complete =>
    obtain ⟨hcnt, rfl⟩ := selectForm_complete.mp h
    simp [hcnt]
  | resync =>
    obtain ⟨hfill, -, rfl⟩ := selectForm_resync.mp h
    simp [hfill, Regs.signalResync]

/-- R60, as R52 writes it. -/
theorem Regs.endStreamIf_eq (r : Regs) (inEos : Bool) : r.endStreamIf inEos =
    if inEos then
      { r with
        errTrunc := if r.cnt ≠ 0#5 then true else r.errTrunc, cnt := 0#5, prevValid := false, prevSync := false }
    else r := by
  simp [Regs.endStreamIf, Regs.endOfStream, ite_not]

/-- Settles O38. -/
theorem stepFollowsTheStepFunction : Obligations.StepFollowsTheStepFunction := by
  intro s sel hlegal hbits hcnt
  have hsel := portsCfg_syncEdge hbits
  obtain ⟨r, hr⟩ := Option.isSome_iff_exists.mp (edgeRegs_isSome s.ports (portsCfg s.ports).syncEdge hcnt)
  refine ⟨s.stepped r, step_eq_next.mpr ⟨hlegal, r, hr, rfl⟩, hsel, ?_⟩
  rw [hsel] at hr
  rw [State.stepped_regs]
  rcases edgeRegs_cases hr with ⟨hrst, rfl⟩ | ⟨hrst, hvalid, rfl⟩ | ⟨hrst, hvalid, f, hf, rfl⟩
  · simp [hrst]
  · rw [Regs.endStreamIf_eq]
    simp only [hrst, hvalid, Bool.false_eq_true, if_false]
    rfl
  · have hform := Regs.applyForm_selected hf s.regs.clearPulses s.ports.inSync s.ports.inData s.ports.inTs
    rw [Regs.acceptSample, hform, Regs.endStreamIf_eq]
    simp only [hrst, hvalid, Bool.false_eq_true, if_false, if_true]
    rfl

end Sys2Proof.Machine
end

section
/-! PROOFS, family 40_assembler.md, part 3: a presented frame word (log 9). -/

namespace Sys2Proof.Machine

/-- Log 10: a number of 20 bits in three bytes is a frame word. -/
theorem tableCode_frame {w : Nat} (h : w < 2 ^ 20) : tableCode 24 w = some (.frame (BitVec.ofNat 20 w)) := by
  simp only [tableCode, tableFormat, Format.code, true_or, if_true, if_pos h, Except.toOption]

/-- Log 9: it is presented as the state whose next cycle brings its 20th sample. -/
theorem withFetchWord_frame (s : State) {w : Nat} (h : w < 2 ^ 20) :
    s.withFetchWord 24 w = s.present (.frame (BitVec.ofNat 20 w)) := by
  rw [State.withFetchWord, State.presentWord, tableCode_frame h]

theorem decodeTableWord_frame {w : Nat} (h : w < 2 ^ 20) :
    decodeTableWord 24 w = some (decodeFrame (BitVec.ofNat 20 w)) := by
  rw [decodeTableWord, tableCode_frame h]
  rfl

/-- R58: the 19 collected bits and the last one are the word. -/
theorem frameWord_of_last_bit (w : FrameWord) : w.extractLsb' 1 19 ++ BitVec.ofBool (w.getLsbD 0) = w := by
  rw [BitVec.append_ofBool]
  exact BitVec.concat_extractLsb'_getLsb

/-- R58: the next step completes the presented word. -/
theorem step_present_frame (s : State) (w : FrameWord) :
    ∃ t, step (s.present (.frame w)) = .next t ∧ t.regs.frData = w ∧ t.regs.frValid = true := by
  have hregs : edgeRegs (s.present (.frame w)).ports .rising (s.present (.frame w)).regs =
      some ((s.present (.frame w)).regs.acceptSample .complete false (w.getLsbD 0) 0) := rfl
  exact ⟨_, step_eq_next.mpr ⟨rfl, _, hregs, rfl⟩, frameWord_of_last_bit w, rfl⟩

/-- Settles O52: the completed word's own row keeps the settled outputs. -/
theorem presentedFrameWordIsDecoded : Obligations.PresentedFrameWordIsDecoded := by
  intro s w hw
  obtain ⟨t, hstep, hdata, hvalid⟩ := step_present_frame s (BitVec.ofNat 20 w)
  refine ⟨_, t, decodeTableWord_frame hw, by rw [withFetchWord_frame s hw, hstep], hdata, hvalid, ?_⟩
  rw [← hdata]
  exact frame_instr_keeps_settled (step_settled hstep)

end Sys2Proof.Machine
end

section
/-! PROOFS, family 40_assembler.md, part 4: runs of cycles, IDLE cycles, and samples without an edge. -/

namespace Sys2Proof.Machine

/-! ## The registers through a run -/

/-- A cycle with a legal configuration takes the registers `r` to `q` (R52). -/
def Regs.Cycle (r : Regs) (p : Ports) (q : Regs) : Prop :=
  p.legalConfig = true ∧ edgeRegs p (portsCfg p).syncEdge r = some q

/-- The cycles `ps` take the registers `r` to `q`, through the registers `rs` after each of them. -/
inductive Regs.Run : Regs → List Ports → List Regs → Regs → Prop
  | nil (r : Regs) : Regs.Run r [] [] r
  | cons {r q r' : Regs} {p : Ports} {ps : List Ports} {rs : List Regs} (hcycle : r.Cycle p q)
      (hrun : Regs.Run q ps rs r') : Regs.Run r (p :: ps) (q :: rs) r'

theorem Regs.Run.length_eq {r q : Regs} {ps : List Ports} {rs : List Regs} (h : r.Run ps rs q) :
    rs.length = ps.length := by
  induction h with
  | nil => rfl
  | cons _ _ ih => simp [ih]

theorem Regs.Run.append {r q u : Regs} {ps ps' : List Ports} {rs rs' : List Regs} (h : r.Run ps rs q)
    (h' : q.Run ps' rs' u) : r.Run (ps ++ ps') (rs ++ rs') u := by
  induction h with
  | nil => exact h'
  | cons hcycle _ ih => exact .cons hcycle (ih h')

theorem Regs.Cycle.run {r q : Regs} {p : Ports} (h : r.Cycle p q) : r.Run [p] [q] q := .cons h (.nil q)

/-- A run of the registers is a run of the machine, which ends each step with its outputs settled. -/
theorem trace_of_run {r q : Regs} {ps rest : List Ports} {rs : List Regs} (h : r.Run ps rs q) {s : State}
    (hregs : s.regs = r) (hinputs : s.inputs = ps ++ rest) :
    ∃ ts, trace ps.length s = some ts ∧ ts.map State.regs = rs ∧ ∀ t ∈ ts, t.Settled := by
  induction h generalizing s with
  | nil => exact ⟨[], rfl, rfl, by simp⟩
  | @cons r q r' p ps rs hcycle hrun ih =>
    have hports : s.ports = p := by simp [State.ports, hinputs]
    obtain ⟨hlegal, hwritten⟩ := hcycle
    rw [← hports] at hlegal
    rw [← hports, ← hregs] at hwritten
    have hstep : step s = .next (s.stepped q) := step_eq_next.mpr ⟨hlegal, q, hwritten, rfl⟩
    obtain ⟨ts, htrace, hmap, hsettled⟩ := ih (s := s.stepped q) rfl (by simp [hinputs])
    exact ⟨s.stepped q :: ts, trace_succ_eq_some.mpr ⟨_, ts, hstep, htrace, rfl⟩, by simp [hmap],
      List.forall_mem_cons.mpr ⟨step_settled hstep, hsettled⟩⟩

/-! ## The cycles of a stream -/

theorem idlePorts_legalConfig (cfg : Cfg) : (idlePorts cfg).legalConfig = true := by
  obtain ⟨e, m, a⟩ := cfg
  cases e <;> cases m <;> rfl

theorem idle_cycle (cfg : Cfg) (r : Regs) : r.Cycle (idlePorts cfg) r.clearPulses :=
  ⟨idlePorts_legalConfig cfg, rfl⟩

theorem eos_cycle (cfg : Cfg) (r : Regs) : r.Cycle (eosPorts cfg) r.clearPulses.endOfStream :=
  ⟨idlePorts_legalConfig cfg, rfl⟩

/-- The registers after a sample in a given form. -/
abbrev Regs.accept (r : Regs) (f : SampleForm) (x : Sample) : Regs := r.acceptSample f x.sync x.data x.ts

theorem sample_cycle {cfg : Cfg} {r : Regs} {f : SampleForm} {x : Sample}
    (h : selectForm r.cnt (startEdge r.prevValid r.prevSync x.sync cfg.syncEdge) = some f) :
    r.Cycle (x.ports cfg) (r.accept f x) := by
  have hedge : (portsCfg (x.ports cfg)).syncEdge = cfg.syncEdge := portsCfg_syncEdge rfl
  refine ⟨idlePorts_legalConfig cfg, ?_⟩
  rw [hedge]
  exact congrArg (Option.map fun f => r.accept f x) h

/-- The frame-start edges among the coming samples, from the registers as they are. -/
def Regs.edges (r : Regs) (cfg : Cfg) (xs : List Sample) : List Bool :=
  edgesOf cfg.syncEdge r.prevValid r.prevSync xs

/-- R54: after a sample in any form, the edges to come are those that follow it in the stream. -/
theorem Regs.edges_cons {r : Regs} {cfg : Cfg} {x : Sample} {xs : List Sample} {b : Bool} {bs : List Bool}
    (h : r.edges cfg (x :: xs) = b :: bs) : startEdge r.prevValid r.prevSync x.sync cfg.syncEdge = b ∧
      ∀ f, (r.accept f x).edges cfg xs = bs := by
  obtain ⟨hedge, hrest⟩ := List.cons.inj h
  exact ⟨hedge, fun _ => hrest⟩

/-! ## IDLE cycles -/

/-- R103: after the first of them the pulses are clear, and the others write nothing new. -/
theorem run_idle (cfg : Cfg) (k : Nat) (r : Regs) : ∃ rs q,
    r.Run (List.replicate k (idlePorts cfg)) rs q ∧ ∀ t ∈ rs, t = r.clearPulses := by
  induction k generalizing r with
  | zero => exact ⟨[], r, .nil r, by simp⟩
  | succ k ih =>
    obtain ⟨rs, q, hrun, hrs⟩ := ih r.clearPulses
    exact ⟨_, q, .cons (idle_cycle cfg r) hrun, List.forall_mem_cons.mpr ⟨rfl, hrs⟩⟩

/-- Settles O44. -/
theorem idleCyclesNeverAffectFraming : Obligations.IdleCyclesNeverAffectFraming := by
  intro k s cfg rest hinputs
  obtain ⟨rs, q, hrun, hrs⟩ := run_idle cfg k s.regs
  obtain ⟨ts, htrace, rfl, -⟩ := trace_of_run hrun rfl hinputs
  rw [List.length_replicate] at htrace
  exact ⟨ts, htrace, List.forall_mem_map.mp hrs⟩

/-! ## Samples without an edge, in HUNT -/

/-- No pulse is raised: no frame and no error of the assembler. -/
structure Regs.Quiet (r : Regs) : Prop where
  frValid   : r.frValid = false
  errTrunc  : r.errTrunc = false
  errResync : r.errResync = false

/-- R55, R92: the block stays in HUNT and keeps the last frame. -/
theorem run_in_hunt {cfg : Cfg} {xs : List Sample} {r : Regs} (hcnt : r.cnt = 0#5)
    (hedges : r.edges cfg xs = List.replicate xs.length false) : ∃ rs q,
    r.Run (xs.map (Sample.ports cfg)) rs q ∧ ∀ t ∈ rs, t.cnt = 0#5 ∧ t.Quiet ∧ t.frData = r.frData := by
  induction xs generalizing r with
  | nil => exact ⟨[], r, .nil r, by simp⟩
  | cons x xs ih =>
    obtain ⟨hedge, hrest⟩ := Regs.edges_cons hedges
    obtain ⟨rs, q, hrun, hrs⟩ := ih (r := r.accept .huntSkip x) hcnt (hrest _)
    exact ⟨_, q, .cons (sample_cycle (selectForm_huntSkip.mpr ⟨hcnt, hedge⟩)) hrun,
      List.forall_mem_cons.mpr ⟨⟨hcnt, ⟨rfl, rfl, rfl⟩, rfl⟩, hrs⟩⟩

/-- R81: without a frame `err[2]` is 0, so the error wires are 0 where no pulse is raised. -/
theorem Regs.Quiet.err_eq_zero {s : State} (h : s.regs.Quiet) (hsettled : s.Settled) : s.err = 0#3 := by
  obtain ⟨-, hunknown, -⟩ := decodeOutputs_fields s.regs.frValid s.regs.frData s.cfg
  rw [← hsettled, h.frValid] at hunknown
  rw [State.err, hunknown, gateUnknownHeader, Bool.false_and, h.errTrunc, h.errResync]
  rfl

/-- Settles O46. -/
theorem noEdgeKeepsTheBlockInHunt : Obligations.NoEdgeKeepsTheBlockInHunt := by
  intro cfg xs s hcnt hedges hinputs
  obtain ⟨rs, q, hrun, hrs⟩ := run_in_hunt hcnt hedges
  obtain ⟨ts, htrace, rfl, hsettled⟩ := trace_of_run (rest := []) hrun rfl (by simpa using hinputs)
  rw [List.length_map] at htrace
  refine ⟨ts, htrace, fun t ht => ?_⟩
  obtain ⟨hhunt, hquiet, hdata⟩ := hrs t.regs (List.mem_map_of_mem ht)
  exact ⟨hhunt, hquiet.frValid, hdata, hquiet.err_eq_zero (hsettled t ht)⟩

end Sys2Proof.Machine
end

section
/-! PROOFS, family 40_assembler.md, part 5: streams with frames. -/

namespace Sys2Proof.Machine

/-! ## The buffers as lists of samples -/

/-- A buffer's low bits are a field of the samples collected, the first sample's highest (R18, R28). -/
def HoldsBits {n : Nat} (acc : BitVec n) (field : Sample → Bool) (f : List Sample) : Prop :=
  ∀ i < f.length, acc.getLsbD (f.length - 1 - i) = field (f.getD i default)

theorem HoldsBits.append {n : Nat} {acc : BitVec n} {field : Sample → Bool} {f : List Sample}
    (h : HoldsBits acc field f) (x : Sample) : HoldsBits (acc ++ BitVec.ofBool (field x)) field (f ++ [x]) := by
  intro i hi
  rw [List.length_append, List.length_singleton] at hi ⊢
  rw [BitVec.append_ofBool, BitVec.getLsbD_concat]
  rcases Nat.lt_succ_iff_lt_or_eq.mp hi with hlt | rfl
  · rw [if_neg (by omega), List.getD_append _ _ _ _ hlt, ← h i hlt]
    congr 1
    omega
  · rw [if_pos (by omega), List.getD_append_right _ _ _ _ le_rfl]
    simp

/-- R56: the first sample of a frame. -/
theorem HoldsBits.singleton (field : Sample → Bool) (x : Sample) :
    HoldsBits ((BitVec.ofBool (field x)).setWidth 19) field [x] := by
  intro i hi
  obtain rfl : i = 0 := by simpa using hi
  simp

/-- R57: a shift-in collects one more sample, while the buffer has room. -/
theorem HoldsBits.shiftIn {acc : Accumulator} {field : Sample → Bool} {f : List Sample} (h : HoldsBits acc field f)
    (hroom : f.length ≤ 18) (x : Sample) : HoldsBits (shiftIn acc (field x)) field (f ++ [x]) := by
  refine HoldsBits.append (fun i hi => ?_) x
  rw [← h i hi, BitVec.getLsbD_extractLsb', Nat.zero_add, decide_eq_true (by omega), Bool.true_and]

/-! ## A frame in progress -/

/-- The registers in FILL, with the samples `f` collected (R16, R18, R19). -/
structure Regs.Collected (r : Regs) (f : List Sample) : Prop where
  pos     : 1 ≤ f.length
  le      : f.length ≤ 19
  cnt     : r.cnt.toNat = f.length
  data    : HoldsBits r.accData Sample.data f
  sync    : HoldsBits r.accSync Sample.sync f
  tsStart : r.tsStart = (f.getD 0 default).ts

theorem Regs.Collected.cnt_ne_zero {r : Regs} {f : List Sample} (h : r.Collected f) : r.cnt ≠ 0#5 := by
  have hpos := h.pos
  have hcnt := h.cnt
  bv_omega

/-- R56. -/
theorem Regs.collected_start (r : Regs) (x : Sample) : (r.accept .start x).Collected [x] :=
  ⟨le_rfl, by simp, rfl, .singleton _ x, .singleton _ x, rfl⟩

/-- R59. -/
theorem Regs.collected_resync (r : Regs) (x : Sample) : (r.accept .resync x).Collected [x] :=
  ⟨le_rfl, by simp, rfl, .singleton _ x, .singleton _ x, rfl⟩

/-- R57. -/
theorem Regs.Collected.accum {r : Regs} {f : List Sample} (h : r.Collected f) (hroom : f.length ≤ 18) (x : Sample) :
    (r.accept .accum x).Collected (f ++ [x]) where
  pos := by simp
  le := by simpa using Nat.lt_succ_of_le hroom
  cnt := by
    have hcnt := h.cnt
    have hlt : r.cnt < 19#5 := by bv_omega
    rw [List.length_append, List.length_singleton, ← hcnt]
    exact toNat_add_one_of_lt hlt
  data := h.data.shiftIn hroom x
  sync := h.sync.shiftIn hroom x
  tsStart := by
    rw [List.getD_append _ _ _ _ h.pos]
    exact h.tsStart

/-- A frame has just been delivered: HUNT, with the frame's pulse and no error (R58, R86). -/
structure Regs.Delivered (r : Regs) (f : List Sample) : Prop where
  cnt       : r.cnt = 0#5
  frValid   : r.frValid = true
  errTrunc  : r.errTrunc = false
  errResync : r.errResync = false
  frame     : r.HoldsFrame f

/-- R58. -/
theorem Regs.Collected.complete {r : Regs} {f : List Sample} (h : r.Collected f) (hlast : f.length = 19)
    (x : Sample) : (r.accept .complete x).Delivered (f ++ [x]) := by
  have hlength : (f ++ [x]).length = 20 := by simp [hlast]
  have hdata := h.data.append x
  have hsync := h.sync.append x
  rw [HoldsBits, hlength] at hdata hsync
  refine ⟨rfl, rfl, rfl, rfl, fun i => ⟨hdata i i.isLt, hsync i i.isLt⟩, ?_, ?_⟩
  · rw [List.getD_append _ _ _ _ h.pos]
    exact h.tsStart
  · rw [List.getD_append_right _ _ _ _ hlast.le, hlast]
    rfl

/-! ## Cycles of a frame -/

variable {cfg : Cfg} {r : Regs} {f xs : List Sample} {x : Sample} {bs : List Bool}

/-- R56: an edge in HUNT begins a frame. -/
theorem start_cycle (hcnt : r.cnt = 0#5) (hedges : r.edges cfg (x :: xs) = true :: bs) :
    r.Cycle (x.ports cfg) (r.accept .start x) := by
  obtain ⟨hedge, -⟩ := Regs.edges_cons hedges
  exact sample_cycle (selectForm_start.mpr ⟨hcnt, hedge⟩)

/-- R59: an edge in FILL begins the next one. -/
theorem Regs.Collected.resync_cycle (h : r.Collected f) (hedges : r.edges cfg (x :: xs) = true :: bs) :
    r.Cycle (x.ports cfg) (r.accept .resync x) := by
  obtain ⟨hedge, -⟩ := Regs.edges_cons hedges
  have hle := h.le
  have hcnt := h.cnt
  exact sample_cycle (selectForm_resync.mpr ⟨h.cnt_ne_zero, by bv_omega, hedge⟩)

/-- R57: samples without an edge are collected, as long as the buffer has room. -/
theorem Regs.Collected.run_accum {ys : List Sample} (h : r.Collected f) (hroom : f.length + xs.length ≤ 19)
    (hedges : r.edges cfg (xs ++ ys) = List.replicate xs.length false ++ bs) : ∃ rs q,
    r.Run (xs.map (Sample.ports cfg)) rs q ∧ (∀ t ∈ rs, t.Quiet) ∧ q.Collected (f ++ xs) ∧ q.edges cfg ys = bs := by
  induction xs generalizing r f with
  | nil => exact ⟨[], r, .nil r, by simp, by simpa using h, hedges⟩
  | cons x xs ih =>
    rw [List.length_cons] at hroom
    obtain ⟨hedge, hrest⟩ := Regs.edges_cons hedges
    have hcnt := h.cnt
    have hform := selectForm_accum.mpr ⟨h.cnt_ne_zero, by bv_omega, hedge⟩
    obtain ⟨rs, q, hrun, hquiet, hcollected, hys⟩ :=
      ih (h.accum (by omega) x) (by simp only [List.length_append, List.length_singleton]; omega) (hrest _)
    exact ⟨_, q, .cons (sample_cycle hform) hrun, List.forall_mem_cons.mpr ⟨⟨rfl, rfl, rfl⟩, hquiet⟩,
      by simpa using hcollected, hys⟩

/-- R57, R58: the samples up to the 20th without an edge, which delivers the frame. -/
theorem Regs.Collected.run_complete {ys : List Sample} (h : r.Collected f) (hlength : f.length + xs.length = 20)
    (hedges : r.edges cfg (xs ++ ys) = List.replicate xs.length false ++ bs) : ∃ rs q,
    r.Run (xs.map (Sample.ports cfg)) (rs ++ [q]) q ∧ (∀ t ∈ rs, t.Quiet) ∧ q.Delivered (f ++ xs) ∧
    q.edges cfg ys = bs := by
  have hle := h.le
  obtain rfl | ⟨init, x, rfl⟩ := xs.eq_nil_or_concat
  · simp only [List.length_nil] at hlength
    omega
  · simp only [List.concat_eq_append, List.length_append, List.length_singleton, List.append_assoc,
      List.replicate_add] at hlength hedges
    obtain ⟨rs, q, hrun, hquiet, hcollected, hlast⟩ := h.run_accum (by omega) hedges
    obtain ⟨hedge, hys⟩ := Regs.edges_cons hlast
    have hnineteen : (f ++ init).length = 19 := by rw [List.length_append]; omega
    have hcnt := hcollected.cnt
    have hform := selectForm_complete.mpr ⟨(by bv_omega : q.cnt = 19#5), hedge⟩
    refine ⟨rs, q.accept .complete x, ?_, hquiet, ?_, hys _⟩
    · rw [List.concat_eq_append, List.map_append]
      exact hrun.append (sample_cycle hform).run
    · rw [List.concat_eq_append, ← List.append_assoc]
      exact hcollected.complete hnineteen x

end Sys2Proof.Machine
end

section
/-! PROOFS, family 40_assembler.md, part 6: what a stream of frames, a truncated frame and a resync deliver. -/

namespace Sys2Proof.Machine

/-! ## Frames back to back (R62) -/

/-- An edge whose form begins a frame, and 19 samples without one: the frame is delivered. -/
theorem run_from_edge {cfg : Cfg} {r : Regs} {form : SampleForm} {f ys : List Sample} {bs : List Bool}
    (hcycle : ∀ {x xs bs}, r.edges cfg (x :: xs) = true :: bs → r.Cycle (x.ports cfg) (r.accept form x))
    (hbegun : ∀ x, (r.accept form x).Collected [x]) (hlength : f.length = 20)
    (hedges : r.edges cfg (f ++ ys) = true :: List.replicate 19 false ++ bs) : ∃ x rs q,
    r.Run (f.map (Sample.ports cfg)) (r.accept form x :: (rs ++ [q])) q ∧ (∀ t ∈ rs, t.Quiet) ∧ q.Delivered f ∧
    q.edges cfg ys = bs := by
  obtain ⟨x, xs, rfl⟩ := List.exists_cons_of_length_pos (by omega : 0 < f.length)
  have hxs : xs.length = 19 := by simpa using hlength
  obtain ⟨-, hrest⟩ := Regs.edges_cons hedges
  obtain ⟨rs, q, hrun, hquiet, hdelivered, hys⟩ := (hbegun x).run_complete (xs := xs) (ys := ys) (bs := bs)
    (by simp [hxs]) (by rw [hxs]; exact hrest _)
  exact ⟨x, rs, q, .cons (hcycle hedges) hrun, hquiet, hdelivered, hys⟩

/-- One frame from HUNT: quiet cycles from its edge on, and its delivery. -/
theorem run_frame {cfg : Cfg} {r : Regs} {f ys : List Sample} {bs : List Bool} (hcnt : r.cnt = 0#5)
    (hlength : f.length = 20) (hedges : r.edges cfg (f ++ ys) = true :: List.replicate 19 false ++ bs) : ∃ rs q,
    r.Run (f.map (Sample.ports cfg)) (rs ++ [q]) q ∧ (∀ t ∈ rs, t.Quiet) ∧ q.Delivered f ∧
    q.edges cfg ys = bs := by
  obtain ⟨x, rs, q, hrun, hquiet, hdelivered, hys⟩ :=
    run_from_edge (start_cycle hcnt) r.collected_start hlength hedges
  exact ⟨r.accept .start x :: rs, q, hrun, List.forall_mem_cons.mpr ⟨⟨rfl, rfl, rfl⟩, hquiet⟩, hdelivered, hys⟩

/-- Among quiet registers none presents a frame. -/
theorem filter_frValid_of_quiet {rs : List Regs} (h : ∀ t ∈ rs, t.Quiet) : rs.filter (fun t => t.frValid) = [] :=
  List.filter_eq_nil_iff.mpr fun t ht => by simp [(h t ht).frValid]

/-- R62 on the registers: the frames in order, each in its pulse, and HUNT after the last. -/
theorem run_frames {cfg : Cfg} {frames : List (List Sample)} {r : Regs} (hlengths : ∀ f ∈ frames, f.length = 20)
    (hcnt : r.cnt = 0#5) (hedges : r.edges cfg frames.flatten = cadence frames.length) : ∃ rs q,
    r.Run (frames.flatten.map (Sample.ports cfg)) rs q ∧ q.cnt = 0#5 ∧
    List.Forall₂ Regs.HoldsFrame (rs.filter fun t => t.frValid) frames ∧
    ∀ t ∈ rs, t.errResync = false ∧ t.errTrunc = false := by
  induction frames generalizing r with
  | nil => exact ⟨[], r, .nil r, hcnt, .nil, by simp⟩
  | cons f frames ih =>
    obtain ⟨hlength, hlengths⟩ := List.forall_mem_cons.mp hlengths
    obtain ⟨rs, q, hrun, hquiet, hdelivered, hrest⟩ := run_frame hcnt hlength hedges
    obtain ⟨rs', q', hrun', hcnt', hframes, herrs⟩ := ih hlengths hdelivered.cnt hrest
    refine ⟨rs ++ [q] ++ rs', q', ?_, hcnt', ?_, ?_⟩
    · rw [List.flatten_cons, List.map_append]
      exact hrun.append hrun'
    · simp only [List.filter_append, filter_frValid_of_quiet hquiet, List.nil_append]
      rw [List.filter_cons_of_pos hdelivered.frValid]
      exact .cons hdelivered.frame hframes
    · simp only [List.forall_mem_append, List.forall_mem_singleton]
      exact ⟨⟨fun t ht => ⟨(hquiet t ht).errResync, (hquiet t ht).errTrunc⟩,
        hdelivered.errResync, hdelivered.errTrunc⟩, herrs⟩

/-- What holds of the registers after each cycle of a run holds of the machine's states. -/
theorem forall_regs_of_map {ts : List State} {rs : List Regs} {P : Regs → Prop} (hmap : ts.map State.regs = rs)
    (h : ∀ r ∈ rs, P r) : ∀ t ∈ ts, P t.regs :=
  List.forall_mem_map.mp (hmap ▸ h)

theorem map_regs_eq {ts : List State} {rs : List Regs} (hmap : ts.map State.regs = rs) (pulse : Regs → Bool) :
    ts.map (fun t => pulse t.regs) = rs.map pulse := by
  rw [← hmap, List.map_map]
  rfl

/-- The machine's states that present a frame are those whose registers do. -/
theorem forall₂_holdsFrame_of_map {ts : List State} {frames : List (List Sample)}
    (h : List.Forall₂ Regs.HoldsFrame ((ts.map State.regs).filter fun t => t.frValid) frames) :
    List.Forall₂ (fun t f => Regs.HoldsFrame t.regs f) (ts.filter fun t => t.regs.frValid) frames := by
  rw [List.filter_map] at h
  exact List.forall₂_map_left_iff.mp h

theorem length_flatten_frames {frames : List (List Sample)} (h : ∀ f ∈ frames, f.length = 20) :
    frames.flatten.length = 20 * frames.length := by
  rw [List.length_flatten, List.map_eq_replicate_iff.mpr h, List.sum_replicate, smul_eq_mul, Nat.mul_comm]

/-- R60: at the end of a stream in HUNT no pulse is raised. -/
theorem quiet_of_eos_in_hunt {r : Regs} (h : r.cnt = 0#5) : r.clearPulses.endOfStream.Quiet :=
  ⟨rfl, by simp [h], rfl⟩

/-- Settles O45. -/
theorem backToBackFramesRoundTrip : Obligations.BackToBackFramesRoundTrip := by
  intro cfg frames s hlengths hcnt hedges hinputs
  obtain ⟨rs, q, hrun, hhunt, hframes, herrs⟩ := run_frames hlengths hcnt hedges
  have heos := quiet_of_eos_in_hunt hhunt
  obtain ⟨ts, htrace, hmap, -⟩ :=
    trace_of_run (rest := []) (hrun.append (eos_cycle cfg q).run) rfl (by simpa using hinputs)
  rw [List.length_append, List.length_map, length_flatten_frames hlengths] at htrace
  have hall : ∀ r ∈ rs ++ [q.clearPulses.endOfStream], r.errResync = false ∧ r.errTrunc = false :=
    List.forall_mem_append.mpr ⟨herrs, List.forall_mem_singleton.mpr ⟨heos.errResync, heos.errTrunc⟩⟩
  refine ⟨ts, htrace, forall₂_holdsFrame_of_map ?_, forall_regs_of_map hmap hall⟩
  simpa [hmap, heos.frValid] using hframes

/-! ## A stream that ends inside a frame (R60, R82) -/

/-- A frame begun in HUNT and not completed: its samples are collected without a pulse. -/
theorem run_partial {cfg : Cfg} {r : Regs} {xs ys : List Sample} {bs : List Bool} (hcnt : r.cnt = 0#5)
    (hpos : 1 ≤ xs.length) (hle : xs.length ≤ 19)
    (hedges : r.edges cfg (xs ++ ys) = true :: List.replicate (xs.length - 1) false ++ bs) : ∃ rs q,
    r.Run (xs.map (Sample.ports cfg)) rs q ∧ (∀ t ∈ rs, t.Quiet) ∧ q.Collected xs ∧ q.edges cfg ys = bs := by
  obtain ⟨x, xs, rfl⟩ := List.exists_cons_of_length_pos hpos
  obtain ⟨-, hrest⟩ := Regs.edges_cons hedges
  obtain ⟨rs, q, hrun, hquiet, hcollected, hys⟩ := (r.collected_start x).run_accum (xs := xs) (ys := ys) (bs := bs)
    (by simpa [Nat.add_comm] using hle) (hrest _)
  exact ⟨_ :: rs, q, .cons (start_cycle hcnt hedges) hrun, List.forall_mem_cons.mpr ⟨⟨rfl, rfl, rfl⟩, hquiet⟩,
    hcollected, hys⟩

/-- Settles O47: the samples raise no pulse, and the EOS finds a frame in progress. -/
theorem truncatedStreamSignalsOnce : Obligations.TruncatedStreamSignalsOnce := by
  intro cfg xs s hpos hle hcnt hedges hinputs
  obtain ⟨rs, q, hrun, hquiet, hcollected, -⟩ :=
    run_partial (r := s.regs) (cfg := cfg) (ys := []) (bs := []) hcnt hpos hle
      (by simp only [List.append_nil]; exact hedges)
  have htrunc : q.clearPulses.endOfStream.errTrunc = true := by simp [hcollected.cnt_ne_zero]
  obtain ⟨ts, htrace, hmap, -⟩ :=
    trace_of_run (rest := []) (hrun.append (eos_cycle cfg q).run) rfl (by simpa using hinputs)
  have hlength : rs.length = xs.length := by simpa using hrun.length_eq
  have hall : ∀ r ∈ rs ++ [q.clearPulses.endOfStream], r.frValid = false ∧ r.errResync = false :=
    List.forall_mem_append.mpr ⟨fun t ht => ⟨(hquiet t ht).frValid, (hquiet t ht).errResync⟩, by simp⟩
  refine ⟨ts, by simpa using htrace, forall_regs_of_map hmap hall, ?_⟩
  calc ts.map (fun t => t.regs.errTrunc) = (rs ++ [q.clearPulses.endOfStream]).map Regs.errTrunc := map_regs_eq hmap _
    _ = rs.map Regs.errTrunc ++ [true] := by rw [List.map_append, List.map_singleton, htrunc]
    _ = List.replicate xs.length false ++ [true] := by
      rw [← hlength, List.map_eq_replicate_iff.mpr fun t ht => (hquiet t ht).errTrunc]

/-! ## A resync (R59, R83) -/

/-- Settles O48: the edge's own cycle signals the resync, and the cycles from it on are a frame's. -/
theorem resyncDeliversTheNewFrame : Obligations.ResyncDeliversTheNewFrame := by
  intro cfg xs f s hpos hle hlength hcnt hedges hinputs
  obtain ⟨rs, q, hrun, hquiet, hcollected, hrest⟩ := run_partial (r := s.regs) hcnt hpos hle hedges
  obtain ⟨x, rs', q', hrun', hquiet', hdelivered, -⟩ :=
    run_from_edge (ys := []) (bs := []) hcollected.resync_cycle q.collected_resync hlength (by simpa using hrest)
  obtain ⟨ts, htrace, hmap, -⟩ := trace_of_run (rest := []) (hrun.append hrun') rfl (by simpa using hinputs)
  have hcount : rs.length = xs.length := by simpa using hrun.length_eq
  have hcount' : rs'.length = 18 := by simpa [hlength] using hrun'.length_eq
  have hall : ∀ r ∈ rs ++ q.accept .resync x :: (rs' ++ [q']), r.errTrunc = false := by
    rw [List.forall_mem_append, List.forall_mem_cons, List.forall_mem_append, List.forall_mem_singleton]
    exact ⟨fun t ht => (hquiet t ht).errTrunc, rfl, fun t ht => (hquiet' t ht).errTrunc, hdelivered.errTrunc⟩
  refine ⟨ts, by simpa [hlength] using htrace, ?_, forall₂_holdsFrame_of_map ?_, forall_regs_of_map hmap hall⟩
  · calc ts.map (fun t => t.regs.errResync) = (rs ++ q.accept .resync x :: (rs' ++ [q'])).map Regs.errResync := map_regs_eq hmap _
      _ = rs.map Regs.errResync ++ true :: (rs'.map Regs.errResync ++ [false]) := by
        simp [hdelivered.errResync, Regs.acceptSample]
      _ = List.replicate xs.length false ++ true :: (List.replicate 18 false ++ [false]) := by
        rw [← hcount, ← hcount', List.map_eq_replicate_iff.mpr fun t ht => (hquiet t ht).errResync,
          List.map_eq_replicate_iff.mpr fun t ht => (hquiet' t ht).errResync]
      _ = List.replicate xs.length false ++ true :: List.replicate 19 false := rfl
  · simpa [hmap, List.filter_append, filter_frValid_of_quiet hquiet, filter_frValid_of_quiet hquiet',
      Regs.acceptSample, hdelivered.frValid] using hdelivered.frame

end Sys2Proof.Machine
end

section
/-! PROOFS, family 41_decoder.md: parity over the coverage, the outputs of each class of word, and their gates. -/

namespace Sys2Proof.Machine

/-! ## Parity (R66) -/

theorem popcountBelow_eq_countP {n : Nat} (v : BitVec n) (k : Nat) :
    popcountBelow v k = (List.range k).countP fun i => v.getLsbD i := by
  induction k with
  | zero => rfl
  | succ k ih =>
    rw [popcountBelow, ih, List.range_succ, List.countP_append, List.countP_singleton]
    cases v.getLsbD k <;> rfl

/-- A word's position field above its parity bit is the word's low bits. -/
theorem getLsbD_coverage {n m i : Nat} (w : BitVec n) (hi : i < m + 1) :
    (w.extractLsb' 1 m ++ BitVec.ofBool (w.getLsbD 0)).getLsbD i = w.getLsbD i := by
  rw [BitVec.getLsbD_append]
  cases i with
  | zero => simp
  | succ i => simp [Nat.lt_of_succ_lt_succ hi, Nat.add_comm 1 i]

/-- The bits that a parity check counts are the word's low bits, the position and `W[0]`. -/
theorem popcount_coverage {n : Nat} (w : BitVec n) (m : Nat) :
    popcount (w.extractLsb' 1 m ++ BitVec.ofBool (w.getLsbD 0)) =
      (List.range (m + 1)).countP fun i => w.getLsbD i := by
  rw [popcount, popcountBelow_eq_countP]
  refine List.countP_congr fun i hi => ?_
  rw [getLsbD_coverage w (List.mem_range.mp hi)]

theorem parityEven_coverage (w : FrameWord) : parityEven (w.extractLsb' 1 16 ++ BitVec.ofBool (w.getLsbD 0)) =
    decide ((List.range 17).countP (fun i => w.getLsbD i) % 2 = 0) := by
  rw [parityEven, popcount_coverage w 16]; rfl

theorem parityOdd_coverage (w : FrameWord) : parityOdd (w.extractLsb' 1 18 ++ BitVec.ofBool (w.getLsbD 0)) =
    decide ((List.range 19).countP (fun i => w.getLsbD i) % 2 = 1) := by
  rw [parityOdd, popcount_coverage w 18]; rfl

/-- The coverage is the parity bit `W[0]` and the position bits. -/
theorem countP_coverage {n : Nat} (w : BitVec n) (m : Nat) : (List.range (m + 1)).countP (fun i => w.getLsbD i) =
    (w.getLsbD 0).toNat + (List.range m).countP (fun i => w.getLsbD (i + 1)) := by
  rw [List.range_succ_eq_map, List.countP_cons, List.countP_map, Nat.add_comm]
  cases w.getLsbD 0 <;> rfl

theorem bit_add_mod_two_eq_zero (b : Bool) (c : Nat) : (b.toNat + c) % 2 = 0 ↔ b.toNat = c % 2 := by
  have hbit := b.toNat_lt
  omega

theorem bit_add_mod_two_eq_one (b : Bool) (c : Nat) : (b.toNat + c) % 2 = 1 ↔ b.toNat = 1 - c % 2 := by
  have hbit := b.toNat_lt
  omega

/-! ## The gates (R70) -/

theorem gateValid_of_ne {cls : FrameClass} (h : cls ≠ .unknown) (v : Bool) : gateValid v cls = v := by
  rw [gateValid, decide_eq_true h, Bool.and_true]

theorem gateUnknownHeader_of_ne {cls : FrameClass} (h : cls ≠ .unknown) (v : Bool) :
    gateUnknownHeader v cls = false := by
  rw [gateUnknownHeader, decide_eq_false h, Bool.and_false]

@[simp] theorem gateValid_unknown (v : Bool) : gateValid v .unknown = false := Bool.and_false v

@[simp] theorem gateUnknownHeader_unknown (v : Bool) : gateUnknownHeader v .unknown = v := Bool.and_true v

/-- R72: a frame opens exactly one of the two gates. -/
theorem gateUnknownHeader_eq_not_gateValid (cls : FrameClass) :
    gateUnknownHeader true cls = !gateValid true cls := by
  by_cases h : cls = .unknown
  · rw [h, gateUnknownHeader_unknown, gateValid_unknown, Bool.not_false]
  · rw [gateUnknownHeader_of_ne h, gateValid_of_ne h, Bool.not_true]

/-! ## The outputs of each class of word -/

/-- R67. -/
theorem decodeStd16_word (v : Bool) (w : FrameWord) (cfg : Cfg) :
    decodeStd16 v (w.extractLsb' 1 16) (w.getLsbD 0) cfg =
      { valid         := v
        mode          := false
        position      := (w.extractLsb' 1 16).setWidth 18
        parityOk      := decide ((List.range 17).countP (fun i => w.getLsbD i) % 2 = 0)
        posFx         := scale .std16 ((w.extractLsb' 1 16).setWidth 18) cfg.signMode cfg.align
        unknownHeader := false } := by
  have hclass : FrameClass.std16 ≠ .unknown := by decide
  rw [decodeStd16, gateValid_of_ne hclass, gateUnknownHeader_of_ne hclass, parityEven_coverage, positionStd16]

/-- R68. -/
theorem decodeEnh18_word (v : Bool) (w : FrameWord) (cfg : Cfg) :
    decodeEnh18 v (w.extractLsb' 1 18) (w.getLsbD 0) cfg =
      { valid         := v
        mode          := true
        position      := w.extractLsb' 1 18
        parityOk      := decide ((List.range 19).countP (fun i => w.getLsbD i) % 2 = 1)
        posFx         := scale .enh18 (w.extractLsb' 1 18) cfg.signMode cfg.align
        unknownHeader := false } := by
  have hclass : FrameClass.enh18 ≠ .unknown := by decide
  rw [decodeEnh18, gateValid_of_ne hclass, gateUnknownHeader_of_ne hclass, parityOdd_coverage]

/-- R69, R79. -/
theorem decodeUnknown_eq (v : Bool) : decodeUnknown v =
    { valid := false, mode := false, position := 0#18, parityOk := false, posFx := 0#20, unknownHeader := v } := by
  rw [decodeUnknown, gateValid_unknown, gateUnknownHeader_unknown]

/-- Settles O6: the row drives `decodeStd16` of the word's fields. -/
theorem standard16FrameIsDecoded : Obligations.Standard16FrameIsDecoded := by
  intro s w hheader
  refine ⟨decodeFrame_std16 hheader, ?_⟩
  rw [← decodeStd16_word s.regs.frValid w s.cfg]
  rfl

/-- Settles O7: the row drives `decodeEnh18` of the word's fields. -/
theorem enhanced18FrameIsDecoded : Obligations.Enhanced18FrameIsDecoded := by
  intro s w htop
  refine ⟨decodeFrame_enh18 htop, ?_⟩
  rw [← decodeEnh18_word s.regs.frValid w s.cfg]
  rfl

/-- R65: the three headers of R69 are Unknown. -/
theorem classify_of_unknown_header {w : FrameWord}
    (h : w.extractLsb' 17 3 = 0#3 ∨ w.extractLsb' 17 3 = 2#3 ∨ w.extractLsb' 17 3 = 3#3) :
    classify w = .unknown := by
  rcases h with h | h | h
  all_goals exact classify_unknown (topBit_of_header h) (by simp [h])

/-- Settles O8: every frame-class row drives the outputs of its word, here those of the Unknown class. -/
theorem unknownFrameIsReported : Obligations.UnknownFrameIsReported := by
  intro s w
  refine ⟨decodeFrame_unk000, decodeFrame_unk010, decodeFrame_unk011, fun hheader => ?_⟩
  rw [exec_decodeFrame, decodeOutputs_unknown (classify_of_unknown_header hheader), decodeUnknown_eq]
  rfl

/-- Settles O9: the coverage's count is the parity bit and the position's count. -/
theorem parityChecksTheCoverage : Obligations.ParityChecksTheCoverage := by
  intro v w cfg
  refine ⟨fun hclass => ?_, fun hclass => ?_⟩
  · rw [decodeOutputs_std16 hclass, decodeStd16_word]
    refine ⟨rfl, decide_eq_decide.mpr ?_⟩
    rw [countP_coverage w 16, bit_add_mod_two_eq_zero]
  · rw [decodeOutputs_enh18 hclass, decodeEnh18_word]
    refine ⟨rfl, decide_eq_decide.mpr ?_⟩
    rw [countP_coverage w 18, bit_add_mod_two_eq_one]

/-! ## After a step -/

/-- R70: the gates of settled outputs. -/
theorem State.Settled.gates {t : State} (h : t.Settled) :
    t.dec.valid = gateValid t.regs.frValid (classify t.regs.frData) ∧
    t.dec.unknownHeader = gateUnknownHeader t.regs.frValid (classify t.regs.frData) := by
  obtain ⟨hvalid, hunknown, -⟩ := decodeOutputs_fields t.regs.frValid t.regs.frData t.cfg
  rw [← h] at hvalid hunknown
  exact ⟨hvalid, hunknown⟩

/-- Settles O10: a step settles the outputs, so they are those of the class of the frame word that it leaves. -/
theorem decoderOutputsAreGated : Obligations.DecoderOutputsAreGated := by
  intro s t hstep
  have hsettled := step_settled hstep
  obtain ⟨hvalid, hunknown⟩ := hsettled.gates
  refine ⟨hvalid, hunknown, fun hclass => ?_, fun hclass => ?_, fun hclass => ?_⟩
  · rw [hsettled, decodeOutputs_std16 hclass, decodeStd16_word]
    exact ⟨rfl, rfl, rfl⟩
  · rw [hsettled, decodeOutputs_enh18 hclass, decodeEnh18_word]
    exact ⟨rfl, rfl, rfl⟩
  · rw [hsettled, decodeOutputs_unknown hclass, decodeUnknown_eq]
    exact ⟨rfl, rfl, rfl, rfl⟩

/-- Settles O11: with `fr_valid = 1` the class opens one of the two gates. -/
theorem eachRawFrameHasOneResult : Obligations.EachRawFrameHasOneResult := by
  intro s t hstep hframe
  obtain ⟨hvalid, hunknown⟩ := (step_settled hstep).gates
  rw [hvalid, hunknown, hframe, gateUnknownHeader_eq_not_gateValid]

/-- R58, R60, R86: the cycle that delivers a frame is in HUNT after its COMPLETE, so not even its EOS truncates; no
invariant is needed of the state before it. -/
theorem step_frame_has_no_assembler_error {s t : State} (h : step s = .next t) (hframe : t.regs.frValid = true) :
    t.regs.errTrunc = false ∧ t.regs.errResync = false := by
  obtain ⟨-, r, hr, rfl⟩ := step_eq_next.mp h
  rw [State.stepped_regs] at hframe ⊢
  rcases edgeRegs_cases hr with ⟨-, rfl⟩ | ⟨-, -, rfl⟩ | ⟨-, -, f, -, rfl⟩
  · exact ⟨rfl, rfl⟩
  · rw [Regs.endStreamIf_frValid] at hframe
    exact absurd hframe Bool.false_ne_true
  · obtain ⟨-, -, -, -, hcomplete⟩ := s.regs.acceptSample_pulses f s.ports.inSync s.ports.inData s.ports.inTs
    rw [Regs.endStreamIf_frValid, hcomplete, decide_eq_true_eq] at hframe
    subst hframe
    cases s.ports.inEos <;> exact ⟨rfl, rfl⟩

/-- Settles O12: the class alone opens the gate, and each of the three error wires is low. -/
theorem parityMismatchNeverSuppressesTheFrame : Obligations.ParityMismatchNeverSuppressesTheFrame := by
  intro s t hstep hclass
  obtain ⟨hvalid, hunknown⟩ := (step_settled hstep).gates
  rw [gateValid_of_ne hclass] at hvalid
  rw [gateUnknownHeader_of_ne hclass] at hunknown
  refine ⟨hvalid, fun hframe _ => ?_⟩
  obtain ⟨htrunc, hresync⟩ := step_frame_has_no_assembler_error hstep hframe
  rw [State.err, hunknown, htrunc, hresync]
  rfl

end Sys2Proof.Machine
end

section
/-! PROOFS, family 42_scale.md, part 1: the scale unit's inputs reach `dec_pos_fx` alone (R73, R102). -/

namespace Sys2Proof.Machine

/-- R73: of the decoder's outputs `dec_pos_fx` alone reads the sign mode and the alignment. -/
theorem decodeOutputs_same_but_posFx (v : Bool) (w : FrameWord) (cfg cfg' : Cfg) :
    { decodeOutputs v w cfg' with posFx := (decodeOutputs v w cfg).posFx } = decodeOutputs v w cfg := by
  cases hclass : classify w with
  | std16 => rw [decodeOutputs_std16 hclass, decodeOutputs_std16 hclass]; rfl
  | enh18 => rw [decodeOutputs_enh18 hclass, decodeOutputs_enh18 hclass]; rfl
  | unknown => rw [decodeOutputs_unknown hclass, decodeOutputs_unknown hclass]

/-- R52, R73: no register's write reads the scale unit's inputs. -/
theorem edgeRegs_scale_ports (p : Ports) (mode : BitVec 2) (align : Bool) (e : SyncEdge) (r : Regs) :
    edgeRegs { p with cfgSignMode := mode, cfgAlign := align } e r = edgeRegs p e r := rfl

/-- The sign modes being legal on both sides, the edge convention alone decides whether the cycle is refused (R47). -/
theorem Ports.SameButScale.legalConfig_eq {p q : Ports} (h : Ports.SameButScale p q) :
    q.legalConfig = p.legalConfig := by
  obtain ⟨hp, hq, hsame⟩ := h
  have hedge : q.cfgSyncEdge = p.cfgSyncEdge := (congrArg Ports.cfgSyncEdge hsame :)
  rw [Ports.legalConfig, Ports.legalConfig, hedge, bne_iff_ne.mpr hp, bne_iff_ne.mpr hq]

/-- A listed cycle's ports differ in the scale unit's inputs alone, and a free cycle's not at all. -/
theorem State.SameButScale.ports {s t : State} (h : s.SameButScale t) :
    { t.ports with cfgSignMode := s.ports.cfgSignMode, cfgAlign := s.ports.cfgAlign } = s.ports ∧
    t.ports.legalConfig = s.ports.legalConfig := by
  have hinputs := h.inputs
  unfold State.ports
  rw [h.clock]
  generalize s.inputs = listed, t.inputs = listed' at hinputs ⊢
  cases hinputs with
  | nil => exact ⟨rfl, rfl⟩
  | cons hport _ =>
    have hlegal := Ports.SameButScale.legalConfig_eq hport
    obtain ⟨-, -, hsame⟩ := hport
    exact ⟨hsame, hlegal⟩

/-- The same registers written on both sides keep the states related. -/
theorem State.SameButScale.stepped {s t : State} (h : s.SameButScale t)
    (hedge : (portsCfg s.ports).syncEdge = (portsCfg t.ports).syncEdge) (r : Regs) :
    (s.stepped r).SameButScale (t.stepped r) where
  regs := rfl
  syncEdge := hedge
  dec := decodeOutputs_same_but_posFx r.frValid r.frData (portsCfg s.ports) (portsCfg t.ports)
  clock := congrArg (· + 1) h.clock
  inputs := by simpa using List.forall₂_drop 1 h.inputs

/-- Settles O50: both cycles are refused alike, or write the same registers, or fault alike. -/
theorem scaleInputsReachOnlyTheScaledPosition : Obligations.ScaleInputsReachOnlyTheScaledPosition := by
  intro s t h
  obtain ⟨hports, hlegal⟩ := h.ports
  have hsync : t.ports.cfgSyncEdge = s.ports.cfgSyncEdge := (congrArg Ports.cfgSyncEdge hports :)
  cases hconfig : s.ports.legalConfig with
  | false =>
    rw [step_reserved hconfig, step_reserved (hlegal.trans hconfig), hsync]
    exact rfl
  | true =>
    have hedge : (portsCfg s.ports).syncEdge = (portsCfg t.ports).syncEdge := by simp only [portsCfg, hsync]
    have hregs : edgeRegs s.ports (portsCfg s.ports).syncEdge s.regs =
        edgeRegs t.ports (portsCfg t.ports).syncEdge t.regs := by
      rw [hedge, h.regs, ← hports, edgeRegs_scale_ports]
    rw [step_legal hconfig, step_legal (hlegal.trans hconfig), hregs]
    cases edgeRegs t.ports (portsCfg t.ports).syncEdge t.regs with
    | none => exact rfl
    | some r => exact h.stepped hedge r

end Sys2Proof.Machine
end

section
/-! PROOFS, family 42_scale.md, part 2: the unit's integer, its bounds, and its exact 20 bits (R74, R80). -/

namespace Sys2Proof.Machine

/-! ## The sign interpretation of a field (R75 to R77) -/

/-- R75 to R77: the values of a field of `w` bits under any sign mode. -/
theorem signedPosition_bounds (m : SignMode) {w p : Nat} (hw : 0 < w) (hp : p < 2 ^ w) :
    -2 ^ (w - 1) ≤ signedPosition m w p ∧ signedPosition m w p < 2 ^ w := by
  have hhalf : (2 : Int) ^ w = 2 * 2 ^ (w - 1) := (mul_pow_sub_one hw.ne' 2).symm
  have hpos : (0 : Int) < 2 ^ (w - 1) := by positivity
  zify at hp
  cases m with
  | unsigned => rw [signedPosition]; omega
  | offsetBinary => rw [signedPosition]; omega
  | twosComplement =>
    rw [signedPosition]
    split_ifs with hsign
    · zify at hsign; omega
    · omega

/-- R76, R77: under the signed modes the values stop at half the range. -/
theorem signedPosition_lt_half {m : SignMode} (hm : m ≠ .unsigned) {w p : Nat} (hw : 0 < w) (hp : p < 2 ^ w) :
    signedPosition m w p < 2 ^ (w - 1) := by
  have hhalf : (2 : Int) ^ w = 2 * 2 ^ (w - 1) := (mul_pow_sub_one hw.ne' 2).symm
  have hpos : (0 : Int) < 2 ^ (w - 1) := by positivity
  zify at hp
  cases m with
  | unsigned => exact absurd rfl hm
  | offsetBinary => rw [signedPosition]; omega
  | twosComplement =>
    rw [signedPosition]
    split_ifs with hsign
    · omega
    · exact_mod_cast Nat.lt_of_not_le hsign

/-! ## The unit's integer by class (R74, R78, R79) -/

theorem scaleValue_std16 (p : Position) (m : SignMode) (a : Bool) :
    scaleValue .std16 p m a = signedPosition m 16 (p.toNat % 2 ^ 16) * if a then 4 else 1 := by
  cases a <;> simp [scaleValue, alignValue, fieldWidth]

theorem scaleValue_enh18 (p : Position) (m : SignMode) (a : Bool) :
    scaleValue .enh18 p m a = signedPosition m 18 p.toNat := by
  simp [scaleValue, alignValue, fieldWidth, Nat.mod_eq_of_lt p.isLt]

/-- R80: the unit's integer over every class, position, mode and alignment. -/
theorem scaleValue_bounds (cls : FrameClass) (p : Position) (m : SignMode) (a : Bool) :
    -131072 ≤ scaleValue cls p m a ∧ scaleValue cls p m a ≤ 262143 := by
  cases cls with
  | unknown => simp [scaleValue]
  | std16 =>
    have hfield := signedPosition_bounds m (w := 16) (by decide) (Nat.mod_lt p.toNat (Nat.two_pow_pos 16))
    rw [scaleValue_std16]
    split_ifs <;> omega
  | enh18 =>
    have hfield := signedPosition_bounds m (w := 18) (by decide) p.isLt
    rw [scaleValue_enh18]
    omega

/-- R80: the wrap to 20 bits never changes the integer. -/
theorem scale_toInt (cls : FrameClass) (p : Position) (m : SignMode) (a : Bool) :
    (scale cls p m a).toInt = scaleValue cls p m a := by
  have hbounds := scaleValue_bounds cls p m a
  exact BitVec.toInt_ofInt_eq_self (by decide) (by omega) (by omega)

/-- R76, R77: the largest values of the signed modes. -/
theorem scaleValue_le_of_signed {m : SignMode} (hm : m ≠ .unsigned) (p : Position) (a : Bool) :
    scaleValue .enh18 p m a ≤ 131071 ∧ scaleValue .std16 p m a ≤ 131068 := by
  have henh := signedPosition_lt_half hm (w := 18) (by decide) p.isLt
  have hstd := signedPosition_lt_half hm (w := 16) (by decide) (Nat.mod_lt p.toNat (Nat.two_pow_pos 16))
  rw [scaleValue_enh18, scaleValue_std16]
  refine ⟨by omega, ?_⟩
  split_ifs <;> omega

/-- R75: UNSIGNED gives no negative value. -/
theorem scaleValue_unsigned_nonneg (cls : FrameClass) (p : Position) (a : Bool) :
    0 ≤ scaleValue cls p .unsigned a := by
  cases cls with
  | unknown => exact le_rfl
  | std16 => rw [scaleValue_std16, signedPosition]; positivity
  | enh18 => rw [scaleValue_enh18, signedPosition]; positivity

/-- Settles O20: the bounds by class and mode, and the named extremes by evaluation. -/
theorem scaleNeverOverflows : Obligations.ScaleNeverOverflows := by
  refine ⟨fun cls p m a => ?_, fun p m a hm => scaleValue_le_of_signed hm p a, fun p => ?_, fun a => ?_, ?_⟩
  · obtain ⟨hmin, hmax⟩ := scaleValue_bounds cls p m a
    exact ⟨hmin, hmax, scale_toInt cls p m a⟩
  · have hfield := Nat.mod_lt p.toNat (Nat.two_pow_pos 16)
    rw [scaleValue_std16, signedPosition, if_pos rfl]
    omega
  · cases a <;> decide
  · decide

end Sys2Proof.Machine
end

section
/-! PROOFS, family 42_scale.md, part 3: `dec_pos_fx` of a frame word, and the rows of the unit's inputs (R73 to R79). -/

namespace Sys2Proof.Machine

/-! ## `dec_pos_fx` by the class of the word -/

theorem posFxOf_std16 {w : FrameWord} (h : classify w = .std16) (cfg : Cfg) :
    posFxOf w cfg = BitVec.ofInt 20
      (signedPosition cfg.signMode 16 (w.extractLsb' 1 16).toNat * if cfg.align then 4 else 1) := by
  have hfield : (positionStd16 (w.extractLsb' 1 16)).toNat % 2 ^ 16 = (w.extractLsb' 1 16).toNat := by
    rw [positionStd16, BitVec.toNat_setWidth_of_le (by decide), Nat.mod_eq_of_lt (BitVec.isLt _)]
  simp only [posFxOf, decPosition, h, scale, scaleValue_std16, hfield]

theorem posFxOf_enh18 {w : FrameWord} (h : classify w = .enh18) (cfg : Cfg) :
    posFxOf w cfg = BitVec.ofInt 20 (signedPosition cfg.signMode 18 (w.extractLsb' 1 18).toNat) := by
  simp only [posFxOf, decPosition, h, scale, scaleValue_enh18]

/-- R79. -/
theorem posFxOf_unknown {w : FrameWord} (h : classify w = .unknown) (cfg : Cfg) : posFxOf w cfg = 0#20 := by
  simp only [posFxOf, h]; rfl

/-- R74, with R65's test of the header written out. -/
theorem posFxOf_eq (w : FrameWord) (cfg : Cfg) : posFxOf w cfg =
    if w.getLsbD 19 then BitVec.ofInt 20 (signedPosition cfg.signMode 18 (w.extractLsb' 1 18).toNat)
    else if w.extractLsb' 17 3 = 1#3 then BitVec.ofInt 20
      (signedPosition cfg.signMode 16 (w.extractLsb' 1 16).toNat * if cfg.align then 4 else 1)
    else 0#20 := by
  split
  next htop => exact posFxOf_enh18 (classify_enh18 htop) cfg
  next htop =>
    split
    next hheader => exact posFxOf_std16 (classify_std16 (Bool.eq_false_iff.mpr htop) hheader) cfg
    next hheader => exact posFxOf_unknown (classify_unknown (Bool.eq_false_iff.mpr htop) hheader) cfg

/-! ## UNSIGNED (R75) -/

/-- R75: under UNSIGNED the sign bit is clear. -/
theorem posFxOf_unsigned_signBit (w : FrameWord) {cfg : Cfg} (h : cfg.signMode = .unsigned) :
    (posFxOf w cfg).getLsbD 19 = false := by
  have hmsb : (posFxOf w cfg).msb = false := by
    rw [BitVec.msb_eq_toInt, posFxOf, scale_toInt, h]
    exact decide_eq_false (not_lt.mpr (scaleValue_unsigned_nonneg ..))
  exact hmsb

/-- Settles O14. -/
theorem unsignedModeGivesThePosition : Obligations.UnsignedModeGivesThePosition := by
  intro s
  refine ⟨posFxOf s.regs.frData { s.cfg with signMode := .unsigned }, rfl, posFxOf_unsigned_signBit _ rfl, ?_⟩
  rw [posFxOf_eq]
  simp only [signedPosition, ← BitVec.ofInt_natCast]
  push_cast
  rfl

/-! ## TWOS_COMPLEMENT (R77) -/

/-- R77: the integer that a field stands for in two's complement. -/
theorem signedPosition_twosComplement {n : Nat} (x : BitVec (n + 1)) :
    signedPosition .twosComplement (n + 1) x.toNat = x.toInt := by
  rw [BitVec.toInt_eq_msb_cond, BitVec.msb_eq_decide, signedPosition]
  simp

/-- Settles O16. -/
theorem twosModeSignExtends : Obligations.TwosModeSignExtends := by
  intro s
  refine ⟨posFxOf s.regs.frData { s.cfg with signMode := .twosComplement }, rfl, ?_⟩
  rw [posFxOf_eq]
  simp only [signedPosition_twosComplement (n := 17), signedPosition_twosComplement (n := 15), BitVec.signExtend]

/-! ## OFFSET_BINARY (R76) -/

theorem xor_two_pow_of_lt {n p : Nat} (h : p < 2 ^ n) : p ^^^ 2 ^ n = p + 2 ^ n := by
  have hpos := Nat.two_pow_pos n
  rw [← Nat.div_add_mod (p ^^^ 2 ^ n) (2 ^ n), Nat.xor_div_two_pow, Nat.xor_mod_two_pow, Nat.div_eq_of_lt h,
    Nat.mod_eq_of_lt h, Nat.div_self hpos, Nat.mod_self, Nat.zero_xor, Nat.xor_zero, Nat.mul_one, Nat.add_comm]

/-- R76: subtracting the midpoint is reading the field, with its most significant bit inverted, in two's complement. -/
theorem signedPosition_offsetBinary {n p : Nat} (h : p < 2 ^ (n + 1)) :
    signedPosition .offsetBinary (n + 1) p = signedPosition .twosComplement (n + 1) (p ^^^ 2 ^ n) := by
  rw [signedPosition, signedPosition, Nat.add_sub_cancel]
  by_cases hlow : p < 2 ^ n
  · rw [xor_two_pow_of_lt hlow, if_pos (Nat.le_add_left ..)]
    push_cast
    ring
  · obtain ⟨q, rfl⟩ := Nat.exists_eq_add_of_le' (Nat.le_of_not_lt hlow)
    have hq : q < 2 ^ n := by rw [pow_succ] at h; omega
    rw [← xor_two_pow_of_lt hq, Nat.xor_xor_cancel_right, xor_two_pow_of_lt hq, if_neg (Nat.not_le.mpr hq)]
    push_cast
    ring

/-- R65: the class is decided by the header `W[19:17]`. -/
theorem classify_congr {w u : FrameWord} (h : w.extractLsb' 17 3 = u.extractLsb' 17 3) : classify w = classify u := by
  rw [classify, classify, ← header_getLsbD_two w, ← header_getLsbD_two u, h]

theorem classify_eq_enh18 {w : FrameWord} : classify w = .enh18 ↔ w.getLsbD 19 = true := by
  unfold classify
  split_ifs with htop
  · exact iff_of_true rfl htop
  · exact iff_of_false (by decide) htop
  · exact iff_of_false (by decide) htop

/-- R76: a Standard16 field's most significant bit is `W[16]`, outside the header. -/
theorem posFxOf_offsetBinary_std16 {w : FrameWord} (h : classify w = .std16) (e : SyncEdge) (a : Bool) :
    posFxOf w ⟨e, .offsetBinary, a⟩ = posFxOf (w ^^^ 0x10000#20) ⟨e, .twosComplement, a⟩ := by
  have hclass : classify (w ^^^ 0x10000#20) = .std16 := by
    rw [← h]
    exact classify_congr (by rw [BitVec.extractLsb'_xor]; exact BitVec.xor_zero)
  have hfield : ((w ^^^ 0x10000#20).extractLsb' 1 16).toNat = (w.extractLsb' 1 16).toNat ^^^ 2 ^ 15 := by
    rw [BitVec.extractLsb'_xor, BitVec.toNat_xor]; rfl
  rw [posFxOf_std16 h, posFxOf_std16 hclass, hfield, signedPosition_offsetBinary (BitVec.isLt _)]

/-- R76: an Enhanced18 field's most significant bit is `W[18]`, and its class is decided by `W[19]` alone. -/
theorem posFxOf_offsetBinary_enh18 {w : FrameWord} (h : classify w = .enh18) (e : SyncEdge) (a : Bool) :
    posFxOf w ⟨e, .offsetBinary, a⟩ = posFxOf (w ^^^ 0x40000#20) ⟨e, .twosComplement, a⟩ := by
  have hclass : classify (w ^^^ 0x40000#20) = .enh18 := by
    rw [classify_eq_enh18] at h ⊢
    rw [BitVec.getLsbD_xor, h]; rfl
  have hfield : ((w ^^^ 0x40000#20).extractLsb' 1 18).toNat = (w.extractLsb' 1 18).toNat ^^^ 2 ^ 17 := by
    rw [BitVec.extractLsb'_xor, BitVec.toNat_xor]; rfl
  rw [posFxOf_enh18 h, posFxOf_enh18 hclass, hfield, signedPosition_offsetBinary (BitVec.isLt _)]

/-- Settles O15. -/
theorem offsetModeSubtractsTheMidpoint : Obligations.OffsetModeSubtractsTheMidpoint := by
  refine ⟨fun s => ?_, fun w e a => ?_⟩
  · refine ⟨posFxOf s.regs.frData { s.cfg with signMode := .offsetBinary }, rfl, ?_⟩
    rw [posFxOf_eq]
    rfl
  · exact ⟨fun h => posFxOf_offsetBinary_std16 h e a, fun h => posFxOf_offsetBinary_enh18 h e a⟩

/-! ## Alignment (R78) -/

/-- R78: the alignment is a left shift of a Standard16 frame's value. -/
theorem scale_std16_aligned (p : Position) (m : SignMode) : scale .std16 p m true = scale .std16 p m false <<< 2 := by
  rw [BitVec.shiftLeft_eq_mul_twoPow]
  exact BitVec.ofInt_mul _ 4

/-- R78: the unit reads the alignment for a Standard16 frame only. -/
theorem scale_align_of_ne_std16 {cls : FrameClass} (h : cls ≠ .std16) (p : Position) (m : SignMode) (a : Bool) :
    scale cls p m a = scale cls p m false := by
  cases cls with
  | std16 => exact absurd rfl h
  | enh18 => simp only [scale, scaleValue_enh18]
  | unknown => rfl

/-- R78: shifting a Standard16 frame's value multiplies the signed value by 4, since neither wraps (R80). -/
theorem scale_std16_shift_toInt (p : Position) (m : SignMode) :
    (scale .std16 p m false <<< 2).toInt = (scale .std16 p m false).toInt * 4 := by
  rw [← scale_std16_aligned, scale_toInt, scale_toInt]
  rfl

/-- R78: what `cfg_align = 1` makes of the unaligned output of a frame word. -/
theorem posFxOf_aligned (w : FrameWord) (e : SyncEdge) (m : SignMode) : posFxOf w ⟨e, m, true⟩ =
    if classify w = .std16 then posFxOf w ⟨e, m, false⟩ <<< 2 else posFxOf w ⟨e, m, false⟩ := by
  unfold posFxOf
  split_ifs with hclass
  · rw [hclass, scale_std16_aligned]
  · exact scale_align_of_ne_std16 hclass ..

/-- Settles O17. -/
theorem alignmentMultipliesStandard16ByFour : Obligations.AlignmentMultipliesStandard16ByFour := by
  intro s
  refine ⟨_, rfl, rfl, ?_, fun hclass => ?_⟩
  · rw [← posFxOf_aligned]
    rfl
  · rw [posFxOf, hclass]
    exact scale_std16_shift_toInt ..

/-! ## The unit as an added output (R73, R79) -/

/-- R13, R14: the rows that select the unit's inputs. -/
theorem scale_row_selects {i : Instr} (hi : i ∈ [Instr.sxUnsigned, .sxOffset, .sxTwos, .alignOff, .alignOn])
    (s : State) : (∃ m, exec i s = .next (s.selectSignMode m)) ∨ ∃ a, exec i s = .next (s.selectAlign a) := by
  simp only [List.mem_cons, List.not_mem_nil, or_false] at hi
  rcases hi with rfl | rfl | rfl | rfl | rfl
  · exact .inl ⟨.unsigned, rfl⟩
  · exact .inl ⟨.offsetBinary, rfl⟩
  · exact .inl ⟨.twosComplement, rfl⟩
  · exact .inr ⟨false, rfl⟩
  · exact .inr ⟨true, rfl⟩

/-- R73: the default setting is the identity on `dec_position`. -/
theorem posFxOf_default (w : FrameWord) {cfg : Cfg} (hmode : cfg.signMode = .unsigned) (halign : cfg.align = false) :
    posFxOf w cfg = (decPosition w).setWidth 20 := by
  cases hclass : classify w with
  | std16 =>
    rw [posFxOf_std16 hclass, hmode, halign]
    simp only [signedPosition, decPosition, hclass, positionStd16, Bool.false_eq_true, if_false, mul_one,
      BitVec.ofInt_natCast, BitVec.ofNat_toNat]
    rw [BitVec.setWidth_setWidth (by decide)]
  | enh18 =>
    rw [posFxOf_enh18 hclass, hmode]
    simp only [signedPosition, decPosition, hclass, BitVec.ofInt_natCast, BitVec.ofNat_toNat]
  | unknown =>
    rw [posFxOf_unknown hclass]
    simp only [decPosition, hclass]
    rfl

/-- R22: the position and the scaled position that settled outputs show. -/
theorem State.Settled.positions {t : State} (h : t.Settled) :
    t.dec.position = decPosition t.regs.frData ∧ t.dec.posFx = posFxOf t.regs.frData t.cfg := by
  obtain ⟨-, -, -, hposition, hposFx⟩ := decodeOutputs_fields t.regs.frValid t.regs.frData t.cfg
  rw [← h] at hposition hposFx
  exact ⟨hposition, hposFx⟩

/-- Settles O18: each row is a selection, and a step leaves settled outputs. -/
theorem scaleUnitIsAPureAddedOutput : Obligations.ScaleUnitIsAPureAddedOutput := by
  refine ⟨fun i hi s => ?_, fun s t hstep hmode halign => ?_⟩
  · rcases scale_row_selects hi s with ⟨m, hexec⟩ | ⟨a, hexec⟩
    · exact ⟨_, hexec, rfl, rfl, rfl, rfl, rfl, rfl, rfl, rfl⟩
    · exact ⟨_, hexec, rfl, rfl, rfl, rfl, rfl, rfl, rfl, rfl⟩
  · obtain ⟨hposition, hposFx⟩ := (step_settled hstep).positions
    rw [hposFx, hposition, posFxOf_default _ hmode halign]

/-- Settles O19. -/
theorem unknownFrameScalesToZero : Obligations.UnknownFrameScalesToZero := by
  refine ⟨fun w cfg hclass => posFxOf_unknown hclass cfg, fun s t hstep => ?_⟩
  obtain ⟨hposition, hposFx⟩ := (step_settled hstep).positions
  rw [hposFx, hposition, posFxOf]

end Sys2Proof.Machine
end

section
/-! PROOFS, family 60_exceptions.md: reset dominates (R87, R95), and which events share one output cycle (R86). -/

namespace Sys2Proof.Machine

/-! ## Reset -/

/-- R25, its last sentence: under every configuration the reset registers show the outputs of reset, the cleared
`fr_data` being a word of the UNKNOWN class. -/
theorem decodeOutputs_reset (cfg : Cfg) :
    decodeOutputs Regs.reset.frValid Regs.reset.frData cfg = DecOut.reset := by
  have hclass : classify Regs.reset.frData = .unknown := by decide
  rw [decodeOutputs_unknown hclass]
  rfl

theorem State.afterEdge_reset (s : State) :
    s.afterEdge Regs.reset = { s with regs := Regs.reset, dec := DecOut.reset } := by
  rw [State.afterEdge, decodeOutputs_reset]

/-- R87: RESET is the first test of R52, so no other input matters. -/
theorem edgeRegs_of_rst {p : Ports} (h : p.rst = true) (e : SyncEdge) (r : Regs) : edgeRegs p e r = some Regs.reset :=
  if_pos h

theorem step_of_rst {s : State} (hlegal : s.ports.legalConfig = true) (hrst : s.ports.rst = true) :
    step s = .next (s.stepped Regs.reset) :=
  step_eq_next.mpr ⟨hlegal, Regs.reset, edgeRegs_of_rst hrst _ _, rfl⟩

theorem Regs.Quiet.reset : Regs.reset.Quiet := ⟨rfl, rfl, rfl⟩

/-- Settles O35: the row and the step both write the reset registers, and the outputs follow them. -/
theorem resetClearsEveryRegister : Obligations.ResetClearsEveryRegister := by
  refine ⟨fun s _ _ => congrArg Host.Outcome.next s.afterEdge_reset, fun s hlegal hrst => ?_⟩
  have hstep := step_of_rst hlegal hrst
  exact ⟨_, hstep, rfl, decodeOutputs_reset (portsCfg s.ports),
    Regs.Quiet.reset.err_eq_zero (step_settled hstep)⟩

/-! ## Where the assembler's errors come from -/

@[simp] theorem Regs.endStreamIf_errResync (r : Regs) (inEos : Bool) :
    (r.endStreamIf inEos).errResync = r.errResync := by
  cases inEos <;> rfl

/-- R82: only END_OF_STREAM signals `TruncatedFrame`. -/
theorem Regs.inEos_of_errTrunc {r : Regs} {inEos : Bool} (hclear : r.errTrunc = false)
    (h : (r.endStreamIf inEos).errTrunc = true) : inEos = true := by
  cases inEos with
  | true => rfl
  | false => exact absurd (hclear.symm.trans h) Bool.false_ne_true

/-- R52, R82: a step that signals `TruncatedFrame` ended the stream. -/
theorem step_errTrunc {s t : State} (h : step s = .next t) (htrunc : t.regs.errTrunc = true) :
    s.ports.inEos = true := by
  obtain ⟨-, r, hr, rfl⟩ := step_eq_next.mp h
  rw [State.stepped_regs] at htrunc
  rcases edgeRegs_cases hr with ⟨-, rfl⟩ | ⟨-, -, rfl⟩ | ⟨-, -, f, -, rfl⟩
  · exact absurd htrunc Bool.false_ne_true
  · exact Regs.inEos_of_errTrunc rfl htrunc
  · obtain ⟨-, -, -, hclear, -⟩ := s.regs.acceptSample_pulses f s.ports.inSync s.ports.inData s.ports.inTs
    exact Regs.inEos_of_errTrunc hclear htrunc

/-- R59, R83: a step that signals `ResyncDetected` took a sample with a frame in progress. -/
theorem step_errResync {s t : State} (h : step s = .next t) (hresync : t.regs.errResync = true) :
    s.ports.inValid = true ∧ 1#5 ≤ s.regs.cnt ∧ s.regs.cnt ≤ 19#5 := by
  obtain ⟨-, r, hr, rfl⟩ := step_eq_next.mp h
  rw [State.stepped_regs] at hresync
  rcases edgeRegs_cases hr with ⟨-, rfl⟩ | ⟨-, -, rfl⟩ | ⟨-, hvalid, f, hf, rfl⟩
  · exact absurd hresync Bool.false_ne_true
  · rw [Regs.endStreamIf_errResync] at hresync
    exact absurd hresync Bool.false_ne_true
  · obtain ⟨-, -, hpulse, -, -⟩ := s.regs.acceptSample_pulses f s.ports.inSync s.ports.inData s.ports.inTs
    rw [Regs.endStreamIf_errResync, hpulse, decide_eq_true_eq] at hresync
    subst hresync
    obtain ⟨hfill, hnineteen, -⟩ := selectForm_resync.mp hf
    exact ⟨hvalid, one_le_iff_ne_zero.mpr hfill, hnineteen⟩

/-! ## Events in one output cycle (R86) -/

/-- R70, R72: the two gates are never open together. -/
theorem gateValid_of_gateUnknownHeader {v : Bool} {cls : FrameClass} (h : gateUnknownHeader v cls = true) :
    gateValid v cls = false := by
  cases v with
  | false => exact Bool.false_and _
  | true => rwa [gateUnknownHeader_eq_not_gateValid, Bool.not_eq_true'] at h

/-- R70: without a frame the decoder reports no header. -/
theorem State.Settled.unknownHeader_without_frame {t : State} (h : t.Settled) (hframe : t.regs.frValid = false) :
    t.dec.unknownHeader = false := by
  obtain ⟨-, hunknown⟩ := h.gates
  rw [hunknown, hframe]
  exact Bool.false_and _

/-- R86: a cycle with an error of the assembler delivers no frame, so the decoder is silent too. -/
theorem step_assembler_error_excludes_frame {s t : State} (h : step s = .next t)
    (herror : t.regs.errTrunc = true ∨ t.regs.errResync = true) :
    t.regs.frValid = false ∧ t.dec.unknownHeader = false := by
  have hframe : t.regs.frValid = false := by
    rw [← Bool.not_eq_true]
    intro hvalid
    obtain ⟨htrunc, hresync⟩ := step_frame_has_no_assembler_error h hvalid
    simp [htrunc, hresync] at herror
  exact ⟨hframe, (step_settled h).unknownHeader_without_frame hframe⟩

/-- Settles O42: the decoder's gates exclude each other, an assembler error excludes a frame, and each of the two
assembler errors says what its cycle was. -/
theorem simultaneousEventsAreRestricted : Obligations.SimultaneousEventsAreRestricted := by
  intro s t hstep
  obtain ⟨hvalid, hunknown⟩ := (step_settled hstep).gates
  refine ⟨fun h => ?_, fun htrunc => step_assembler_error_excludes_frame hstep (.inl htrunc),
    fun hresync => step_assembler_error_excludes_frame hstep (.inr hresync),
    fun htrunc hresync => ⟨step_errTrunc hstep htrunc, step_errResync hstep hresync⟩⟩
  rw [hvalid]
  exact gateValid_of_gateUnknownHeader (hunknown ▸ h)

end Sys2Proof.Machine
end

section
/-! PROOFS, family 70_reset_and_hazards.md: a cycle's configuration and the outputs during that cycle (R102). -/

namespace Sys2Proof.Machine

/-- R12: every value of the edge convention but the reserved one decodes to a row that selects. -/
theorem decodeSyncEdge_wellFormed {v : BitVec 2} (h : v ≠ 3#2) : (decodeSyncEdge v).wellFormed = true := by
  rcases two_bits_cases v with rfl | rfl | rfl | rfl
  · rfl
  · rfl
  · rfl
  · exact absurd rfl h

/-- R13: the row of a sign mode's port levels selects that sign mode. -/
theorem exec_decodeSignMode_bits (m : SignMode) (s : State) :
    exec (decodeSignMode (SignMode.bits m)) s = .next (s.selectSignMode m) := by
  cases m <;> rfl

/-- R15, log 5: configuring a legal cycle is three selections, the scale unit's two the ones that its ports name. -/
theorem configure_selects {p : Ports} {m : SignMode} (hlegal : p.legalConfig = true)
    (hmode : p.cfgSignMode = SignMode.bits m) (s : State) :
    ∃ e, configure p s = .next (((s.selectSyncEdge e).selectSignMode m).selectAlign p.cfgAlign) := by
  simp only [Ports.legalConfig, bne_iff_ne, ne_eq, Bool.and_eq_true] at hlegal
  obtain ⟨hedge, -⟩ := hlegal
  obtain ⟨e, hsel⟩ := exec_decodeSyncEdge (decodeSyncEdge_wellFormed hedge) s
  refine ⟨e, ?_⟩
  rw [configure, syncEdgeInstr, hsel, andThen_next, signModeInstr, hmode, exec_decodeSignMode_bits, andThen_next,
    alignInstr, exec_decodeAlign]

/-- R22: the outputs during a cycle are those that its configuration leaves. -/
theorem State.cycleOutputs_of_configure {s t : State} (h : configure s.ports s = .next t) :
    s.cycleOutputs = some t.dec := by
  rw [State.cycleOutputs, h]

/-- R102: after the three selections only `dec_pos_fx` has moved, to R74's value for the held frame under the new sign
mode and alignment, whatever it was before. -/
theorem State.select_dec (s : State) (e : SyncEdge) (m : SignMode) (a : Bool) :
    (((s.selectSyncEdge e).selectSignMode m).selectAlign a).dec =
      { s.dec with posFx := scale (classify s.regs.frData) (decPosition s.regs.frData) m a } := by
  simp [posFxOf]

/-- R102: `UnknownHeader` and the two assembler errors read neither the configuration nor `dec_pos_fx`. -/
theorem State.select_err (s : State) (e : SyncEdge) (m : SignMode) (a : Bool) :
    (((s.selectSyncEdge e).selectSignMode m).selectAlign a).err = s.err := by
  simp [State.err]

/-- Settles O21: the cycle's configuration is three selections, and of the outputs they move `dec_pos_fx` alone. -/
theorem cycleOutputsFollowTheCyclesConfiguration : Obligations.CycleOutputsFollowTheCyclesConfiguration := by
  intro s m hlegal hmode
  obtain ⟨e, hconfigure⟩ := configure_selects hlegal hmode s
  exact ⟨_, hconfigure, s.cycleOutputs_of_configure hconfigure, rfl, s.select_err e m _, s.select_dec e m _⟩

end Sys2Proof.Machine
end
